-- ==== Sys2Proof/Word.lean ====
section
/-! DEFINITION. The machine's plainest data types (00_scope.md R9 to R11): a longword, a word, a byte and a
register number. Registers and addresses are bit vectors because the manual treats them as bits; arithmetic on
them is modulo 2^32 (R9). -/

namespace Sys2Proof

/-- A longword: the contents of a register, or an address (R9, R11, R70). -/
abbrev Word := BitVec 32

/-- A word of 16 bits: an instruction, or the datum of a word access (R11, R110). -/
abbrev Half := BitVec 16

/-- A byte, the unit of memory (R11, R70). -/
abbrev Byte := BitVec 8

/-- A general register's number, a 4-bit instruction field (R20). -/
abbrev RegNum := BitVec 4

end Sys2Proof
end

