-- ==== Sys2Proof/Config.lean ====
section
/-! DEFINITION. What the spec leaves to the implementation, as constants without a body: no proof can learn what
they are, so a theorem holds whatever they are. The other parameters of 00_scope.md R8 are not here: they
are fields of the state. -/

namespace Sys2Proof

/-- The index function of the TLB, which LDTLB applies to PTEH: the parameter `TLBIndex` of 00_scope.md R8, open in the
spec (92_eei_decisions.md D18, log entry 19). -/
opaque Config.tlbIndex : Word → Nat

/-- The k-th free value of a run: what a register that the spec calls undefined after a power-on reset holds
(70_reset_and_hazards.md R481), or what a device answers for which the host has supplied no value (20_memory.md R96; log
entry 34). -/
opaque Config.freeWord : Nat → Word

end Sys2Proof
end

