-- ==== Sys2Proof/Syntax.lean ====
section
/-! DEFINITION. The instruction set as syntax: one constructor for each of the 188 rows of spec/opcode_table.json,
in the table's order (30_encoding.md R123). Operands stand in the assembler's order, source first (R128). A field
holds the encoded bits: a register number, an immediate or a displacement before it is extended or scaled
(R112 to R114). -/

namespace Sys2Proof

/-- The 188 instructions (30_encoding.md R123). The width of each field is that of its encoding (R111), so every
term of this type can be encoded. -/
inductive Instr where
  -- data transfer
  /-- `MOV #imm,Rn`, R155. -/
  | movImm (imm : BitVec 8) (n : RegNum)
  /-- `MOV.W @(disp,PC),Rn`, R156. -/
  | movWLoadPc (disp : BitVec 8) (n : RegNum)
  /-- `MOV.L @(disp,PC),Rn`, R157. -/
  | movLLoadPc (disp : BitVec 8) (n : RegNum)
  /-- `MOV Rm,Rn`, R154. -/
  | mov (m n : RegNum)
  /-- `MOV.B Rm,@Rn`, R158. -/
  | movBStore (m n : RegNum)
  /-- `MOV.W Rm,@Rn`, R159. -/
  | movWStore (m n : RegNum)
  /-- `MOV.L Rm,@Rn`, R160. -/
  | movLStore (m n : RegNum)
  /-- `MOV.B @Rm,Rn`, R161. -/
  | movBLoad (m n : RegNum)
  /-- `MOV.W @Rm,Rn`, R162. -/
  | movWLoad (m n : RegNum)
  /-- `MOV.L @Rm,Rn`, R163. -/
  | movLLoad (m n : RegNum)
  /-- `MOV.B Rm,@-Rn`, R164. -/
  | movBPreDec (m n : RegNum)
  /-- `MOV.W Rm,@-Rn`, R165. -/
  | movWPreDec (m n : RegNum)
  /-- `MOV.L Rm,@-Rn`, R166. -/
  | movLPreDec (m n : RegNum)
  /-- `MOV.B @Rm+,Rn`, R167. -/
  | movBPostInc (m n : RegNum)
  /-- `MOV.W @Rm+,Rn`, R168. -/
  | movWPostInc (m n : RegNum)
  /-- `MOV.L @Rm+,Rn`, R169. -/
  | movLPostInc (m n : RegNum)
  /-- `MOV.B R0,@(disp,Rn)`, R170. -/
  | movBStoreDisp (disp : BitVec 4) (n : RegNum)
  /-- `MOV.W R0,@(disp,Rn)`, R171. -/
  | movWStoreDisp (disp : BitVec 4) (n : RegNum)
  /-- `MOV.L Rm,@(disp,Rn)`, R172. -/
  | movLStoreDisp (m : RegNum) (disp : BitVec 4) (n : RegNum)
  /-- `MOV.B @(disp,Rm),R0`, R173. -/
  | movBLoadDisp (disp : BitVec 4) (m : RegNum)
  /-- `MOV.W @(disp,Rm),R0`, R174. -/
  | movWLoadDisp (disp : BitVec 4) (m : RegNum)
  /-- `MOV.L @(disp,Rm),Rn`, R175. -/
  | movLLoadDisp (disp : BitVec 4) (m n : RegNum)
  /-- `MOV.B Rm,@(R0,Rn)`, R176. -/
  | movBStoreIdx (m n : RegNum)
  /-- `MOV.W Rm,@(R0,Rn)`, R177. -/
  | movWStoreIdx (m n : RegNum)
  /-- `MOV.L Rm,@(R0,Rn)`, R178. -/
  | movLStoreIdx (m n : RegNum)
  /-- `MOV.B @(R0,Rm),Rn`, R179. -/
  | movBLoadIdx (m n : RegNum)
  /-- `MOV.W @(R0,Rm),Rn`, R180. -/
  | movWLoadIdx (m n : RegNum)
  /-- `MOV.L @(R0,Rm),Rn`, R181. -/
  | movLLoadIdx (m n : RegNum)
  /-- `MOV.B R0,@(disp,GBR)`, R182. -/
  | movBStoreGbr (disp : BitVec 8)
  /-- `MOV.W R0,@(disp,GBR)`, R183. -/
  | movWStoreGbr (disp : BitVec 8)
  /-- `MOV.L R0,@(disp,GBR)`, R184. -/
  | movLStoreGbr (disp : BitVec 8)
  /-- `MOV.B @(disp,GBR),R0`, R185. -/
  | movBLoadGbr (disp : BitVec 8)
  /-- `MOV.W @(disp,GBR),R0`, R186. -/
  | movWLoadGbr (disp : BitVec 8)
  /-- `MOV.L @(disp,GBR),R0`, R187. -/
  | movLLoadGbr (disp : BitVec 8)
  /-- `MOVA @(disp,PC),R0`, R188. -/
  | mova (disp : BitVec 8)
  /-- `MOVT Rn`, R189. -/
  | movt (n : RegNum)
  /-- `PREF @Rn`, R196. -/
  | pref (n : RegNum)
  /-- `SWAP.B Rm,Rn`, R190. -/
  | swapB (m n : RegNum)
  /-- `SWAP.W Rm,Rn`, R191. -/
  | swapW (m n : RegNum)
  /-- `XTRCT Rm,Rn`, R192. -/
  | xtrct (m n : RegNum)
  -- arithmetic
  /-- `ADD Rm,Rn`, R211. -/
  | add (m n : RegNum)
  /-- `ADD #imm,Rn`, R212. -/
  | addImm (imm : BitVec 8) (n : RegNum)
  /-- `ADDC Rm,Rn`, R213. -/
  | addc (m n : RegNum)
  /-- `ADDV Rm,Rn`, R214. -/
  | addv (m n : RegNum)
  /-- `CMP/EQ #imm,R0`, R215. -/
  | cmpEqImm (imm : BitVec 8)
  /-- `CMP/EQ Rm,Rn`, R216. -/
  | cmpEq (m n : RegNum)
  /-- `CMP/HS Rm,Rn`, R217. -/
  | cmpHs (m n : RegNum)
  /-- `CMP/GE Rm,Rn`, R218. -/
  | cmpGe (m n : RegNum)
  /-- `CMP/HI Rm,Rn`, R219. -/
  | cmpHi (m n : RegNum)
  /-- `CMP/GT Rm,Rn`, R220. -/
  | cmpGt (m n : RegNum)
  /-- `CMP/PZ Rn`, R221. -/
  | cmpPz (n : RegNum)
  /-- `CMP/PL Rn`, R222. -/
  | cmpPl (n : RegNum)
  /-- `CMP/STR Rm,Rn`, R223. -/
  | cmpStr (m n : RegNum)
  /-- `DIV1 Rm,Rn`, R224. -/
  | div1 (m n : RegNum)
  /-- `DIV0S Rm,Rn`, R225. -/
  | div0s (m n : RegNum)
  /-- `DIV0U`, R226. -/
  | div0u
  /-- `DMULS.L Rm,Rn`, R228. -/
  | dmulsL (m n : RegNum)
  /-- `DMULU.L Rm,Rn`, R229. -/
  | dmuluL (m n : RegNum)
  /-- `DT Rn`, R230. -/
  | dt (n : RegNum)
  /-- `EXTS.B Rm,Rn`, R231. -/
  | extsB (m n : RegNum)
  /-- `EXTS.W Rm,Rn`, R232. -/
  | extsW (m n : RegNum)
  /-- `EXTU.B Rm,Rn`, R233. -/
  | extuB (m n : RegNum)
  /-- `EXTU.W Rm,Rn`, R234. -/
  | extuW (m n : RegNum)
  /-- `MAC.L @Rm+,@Rn+`, R236. -/
  | macL (m n : RegNum)
  /-- `MAC.W @Rm+,@Rn+`, R237. -/
  | macW (m n : RegNum)
  /-- `MUL.L Rm,Rn`, R238. -/
  | mulL (m n : RegNum)
  /-- `MULS.W Rm,Rn`, R239. -/
  | mulsW (m n : RegNum)
  /-- `MULU.W Rm,Rn`, R240. -/
  | muluW (m n : RegNum)
  /-- `NEG Rm,Rn`, R241. -/
  | neg (m n : RegNum)
  /-- `NEGC Rm,Rn`, R242. -/
  | negc (m n : RegNum)
  /-- `SUB Rm,Rn`, R243. -/
  | sub (m n : RegNum)
  /-- `SUBC Rm,Rn`, R244. -/
  | subc (m n : RegNum)
  /-- `SUBV Rm,Rn`, R245. -/
  | subv (m n : RegNum)
  -- logic
  /-- `AND Rm,Rn`, R261. -/
  | and (m n : RegNum)
  /-- `AND #imm,R0`, R262. -/
  | andImm (imm : BitVec 8)
  /-- `AND.B #imm,@(R0,GBR)`, R263. -/
  | andB (imm : BitVec 8)
  /-- `NOT Rm,Rn`, R264. -/
  | not (m n : RegNum)
  /-- `OR Rm,Rn`, R265. -/
  | or (m n : RegNum)
  /-- `OR #imm,R0`, R266. -/
  | orImm (imm : BitVec 8)
  /-- `OR.B #imm,@(R0,GBR)`, R267. -/
  | orB (imm : BitVec 8)
  /-- `TAS.B @Rn`, R268. -/
  | tasB (n : RegNum)
  /-- `TST Rm,Rn`, R269. -/
  | tst (m n : RegNum)
  /-- `TST #imm,R0`, R270. -/
  | tstImm (imm : BitVec 8)
  /-- `TST.B #imm,@(R0,GBR)`, R271. -/
  | tstB (imm : BitVec 8)
  /-- `XOR Rm,Rn`, R272. -/
  | xor (m n : RegNum)
  /-- `XOR #imm,R0`, R273. -/
  | xorImm (imm : BitVec 8)
  /-- `XOR.B #imm,@(R0,GBR)`, R274. -/
  | xorB (imm : BitVec 8)
  -- shift
  /-- `ROTL Rn`, R281. -/
  | rotl (n : RegNum)
  /-- `ROTR Rn`, R282. -/
  | rotr (n : RegNum)
  /-- `ROTCL Rn`, R283. -/
  | rotcl (n : RegNum)
  /-- `ROTCR Rn`, R284. -/
  | rotcr (n : RegNum)
  /-- `SHAD Rm,Rn`, R285. -/
  | shad (m n : RegNum)
  /-- `SHAL Rn`, R286. -/
  | shal (n : RegNum)
  /-- `SHAR Rn`, R287. -/
  | shar (n : RegNum)
  /-- `SHLD Rm,Rn`, R288. -/
  | shld (m n : RegNum)
  /-- `SHLL Rn`, R289. -/
  | shll (n : RegNum)
  /-- `SHLR Rn`, R290. -/
  | shlr (n : RegNum)
  /-- `SHLL2 Rn`, R291. -/
  | shll2 (n : RegNum)
  /-- `SHLR2 Rn`, R292. -/
  | shlr2 (n : RegNum)
  /-- `SHLL8 Rn`, R293. -/
  | shll8 (n : RegNum)
  /-- `SHLR8 Rn`, R294. -/
  | shlr8 (n : RegNum)
  /-- `SHLL16 Rn`, R295. -/
  | shll16 (n : RegNum)
  /-- `SHLR16 Rn`, R296. -/
  | shlr16 (n : RegNum)
  -- branch
  /-- `BF label`, R306. -/
  | bf (disp : BitVec 8)
  /-- `BF/S label`, R307. -/
  | bfS (disp : BitVec 8)
  /-- `BT label`, R308. -/
  | bt (disp : BitVec 8)
  /-- `BT/S label`, R309. -/
  | btS (disp : BitVec 8)
  /-- `BRA label`, R310. -/
  | bra (disp : BitVec 12)
  /-- `BRAF Rn`, R311. -/
  | braf (n : RegNum)
  /-- `BSR label`, R312. -/
  | bsr (disp : BitVec 12)
  /-- `BSRF Rn`, R313. -/
  | bsrf (n : RegNum)
  /-- `JMP @Rn`, R314. -/
  | jmp (n : RegNum)
  /-- `JSR @Rn`, R315. -/
  | jsr (n : RegNum)
  /-- `RTS`, R316. -/
  | rts
  -- system control
  /-- `CLRMAC`, R332. -/
  | clrmac
  /-- `CLRS`, R333. -/
  | clrs
  /-- `CLRT`, R334. -/
  | clrt
  /-- `LDC Rm,SR`, R335. -/
  | ldcSr (m : RegNum)
  /-- `LDC Rm,GBR`, R336. -/
  | ldcGbr (m : RegNum)
  /-- `LDC Rm,VBR`, R337. -/
  | ldcVbr (m : RegNum)
  /-- `LDC Rm,SSR`, R338. -/
  | ldcSsr (m : RegNum)
  /-- `LDC Rm,SPC`, R339. -/
  | ldcSpc (m : RegNum)
  /-- `LDC Rm,R0_BANK`, R340. -/
  | ldcR0Bank (m : RegNum)
  /-- `LDC Rm,R1_BANK`, R341. -/
  | ldcR1Bank (m : RegNum)
  /-- `LDC Rm,R2_BANK`, R342. -/
  | ldcR2Bank (m : RegNum)
  /-- `LDC Rm,R3_BANK`, R343. -/
  | ldcR3Bank (m : RegNum)
  /-- `LDC Rm,R4_BANK`, R344. -/
  | ldcR4Bank (m : RegNum)
  /-- `LDC Rm,R5_BANK`, R345. -/
  | ldcR5Bank (m : RegNum)
  /-- `LDC Rm,R6_BANK`, R346. -/
  | ldcR6Bank (m : RegNum)
  /-- `LDC Rm,R7_BANK`, R347. -/
  | ldcR7Bank (m : RegNum)
  /-- `LDC.L @Rm+,SR`, R348. -/
  | ldcLSr (m : RegNum)
  /-- `LDC.L @Rm+,GBR`, R349. -/
  | ldcLGbr (m : RegNum)
  /-- `LDC.L @Rm+,VBR`, R350. -/
  | ldcLVbr (m : RegNum)
  /-- `LDC.L @Rm+,SSR`, R351. -/
  | ldcLSsr (m : RegNum)
  /-- `LDC.L @Rm+,SPC`, R352. -/
  | ldcLSpc (m : RegNum)
  /-- `LDC.L @Rm+,R0_BANK`, R353. -/
  | ldcLR0Bank (m : RegNum)
  /-- `LDC.L @Rm+,R1_BANK`, R354. -/
  | ldcLR1Bank (m : RegNum)
  /-- `LDC.L @Rm+,R2_BANK`, R355. -/
  | ldcLR2Bank (m : RegNum)
  /-- `LDC.L @Rm+,R3_BANK`, R356. -/
  | ldcLR3Bank (m : RegNum)
  /-- `LDC.L @Rm+,R4_BANK`, R357. -/
  | ldcLR4Bank (m : RegNum)
  /-- `LDC.L @Rm+,R5_BANK`, R358. -/
  | ldcLR5Bank (m : RegNum)
  /-- `LDC.L @Rm+,R6_BANK`, R359. -/
  | ldcLR6Bank (m : RegNum)
  /-- `LDC.L @Rm+,R7_BANK`, R360. -/
  | ldcLR7Bank (m : RegNum)
  /-- `LDS Rm,MACH`, R361. -/
  | ldsMach (m : RegNum)
  /-- `LDS Rm,MACL`, R362. -/
  | ldsMacl (m : RegNum)
  /-- `LDS Rm,PR`, R363. -/
  | ldsPr (m : RegNum)
  /-- `LDS.L @Rm+,MACH`, R364. -/
  | ldsLMach (m : RegNum)
  /-- `LDS.L @Rm+,MACL`, R365. -/
  | ldsLMacl (m : RegNum)
  /-- `LDS.L @Rm+,PR`, R366. -/
  | ldsLPr (m : RegNum)
  /-- `NOP`, R367. -/
  | nop
  /-- `RTE`, R368. -/
  | rte
  /-- `SETS`, R369. -/
  | sets
  /-- `LDTLB`, R370. -/
  | ldtlb
  /-- `SETT`, R371. -/
  | sett
  /-- `SLEEP`, R372. -/
  | sleep
  /-- `STC SR,Rn`, R373. -/
  | stcSr (n : RegNum)
  /-- `STC GBR,Rn`, R374. -/
  | stcGbr (n : RegNum)
  /-- `STC VBR,Rn`, R375. -/
  | stcVbr (n : RegNum)
  /-- `STC SSR,Rn`, R376. -/
  | stcSsr (n : RegNum)
  /-- `STC SPC,Rn`, R377. -/
  | stcSpc (n : RegNum)
  /-- `STC R0_BANK,Rn`, R378. -/
  | stcR0Bank (n : RegNum)
  /-- `STC R1_BANK,Rn`, R379. -/
  | stcR1Bank (n : RegNum)
  /-- `STC R2_BANK,Rn`, R380. -/
  | stcR2Bank (n : RegNum)
  /-- `STC R3_BANK,Rn`, R381. -/
  | stcR3Bank (n : RegNum)
  /-- `STC R4_BANK,Rn`, R382. -/
  | stcR4Bank (n : RegNum)
  /-- `STC R5_BANK,Rn`, R383. -/
  | stcR5Bank (n : RegNum)
  /-- `STC R6_BANK,Rn`, R384. -/
  | stcR6Bank (n : RegNum)
  /-- `STC R7_BANK,Rn`, R385. -/
  | stcR7Bank (n : RegNum)
  /-- `STC.L SR,@-Rn`, R386. -/
  | stcLSr (n : RegNum)
  /-- `STC.L GBR,@-Rn`, R387. -/
  | stcLGbr (n : RegNum)
  /-- `STC.L VBR,@-Rn`, R388. -/
  | stcLVbr (n : RegNum)
  /-- `STC.L SSR,@-Rn`, R389. -/
  | stcLSsr (n : RegNum)
  /-- `STC.L SPC,@-Rn`, R390. -/
  | stcLSpc (n : RegNum)
  /-- `STC.L R0_BANK,@-Rn`, R391. -/
  | stcLR0Bank (n : RegNum)
  /-- `STC.L R1_BANK,@-Rn`, R392. -/
  | stcLR1Bank (n : RegNum)
  /-- `STC.L R2_BANK,@-Rn`, R393. -/
  | stcLR2Bank (n : RegNum)
  /-- `STC.L R3_BANK,@-Rn`, R394. -/
  | stcLR3Bank (n : RegNum)
  /-- `STC.L R4_BANK,@-Rn`, R395. -/
  | stcLR4Bank (n : RegNum)
  /-- `STC.L R5_BANK,@-Rn`, R396. -/
  | stcLR5Bank (n : RegNum)
  /-- `STC.L R6_BANK,@-Rn`, R397. -/
  | stcLR6Bank (n : RegNum)
  /-- `STC.L R7_BANK,@-Rn`, R398. -/
  | stcLR7Bank (n : RegNum)
  /-- `STS MACH,Rn`, R399. -/
  | stsMach (n : RegNum)
  /-- `STS MACL,Rn`, R400. -/
  | stsMacl (n : RegNum)
  /-- `STS PR,Rn`, R401. -/
  | stsPr (n : RegNum)
  /-- `STS.L MACH,@-Rn`, R402. -/
  | stsLMach (n : RegNum)
  /-- `STS.L MACL,@-Rn`, R403. -/
  | stsLMacl (n : RegNum)
  /-- `STS.L PR,@-Rn`, R404. -/
  | stsLPr (n : RegNum)
  /-- `TRAPA #imm`, R405. -/
  | trapa (imm : BitVec 8)
  deriving DecidableEq, Repr

end Sys2Proof
end

