-- ==== Sys2Proof/Decode.lean ====
section
/-! DEFINITION. The decoder and, after it, the encoder: both written from the encodings of 30_encoding.md R123 and
R117. An instruction word is cut into four fields of 4 bits, written here a, b, c, d from bit 15 down, which are
the columns of the opcode map. -/

namespace Sys2Proof

/-- Why a word or a string of bytes is not an instruction. -/
inductive DecodeError where
  /-- The word matches no pattern of R123: undefined code (R124, R125). -/
  | undefinedCode (w : Half)
  /-- Fewer than the two bytes an instruction occupies (R110). -/
  | tooShort
  deriving DecidableEq, Repr

/-- The words whose top field is 0000 (R117). -/
def decodeGroup0 (b c d : BitVec 4) : Option Instr :=
  match d with
  | 0x2#4 =>
    match c with
    | 0x0#4 => .some (.stcSr b)
    | 0x1#4 => .some (.stcGbr b)
    | 0x2#4 => .some (.stcVbr b)
    | 0x3#4 => .some (.stcSsr b)
    | 0x4#4 => .some (.stcSpc b)
    | 0x8#4 => .some (.stcR0Bank b)
    | 0x9#4 => .some (.stcR1Bank b)
    | 0xA#4 => .some (.stcR2Bank b)
    | 0xB#4 => .some (.stcR3Bank b)
    | 0xC#4 => .some (.stcR4Bank b)
    | 0xD#4 => .some (.stcR5Bank b)
    | 0xE#4 => .some (.stcR6Bank b)
    | 0xF#4 => .some (.stcR7Bank b)
    | _ => .none
  | 0x3#4 =>
    match c with
    | 0x0#4 => .some (.bsrf b)
    | 0x2#4 => .some (.braf b)
    | 0x8#4 => .some (.pref b)
    | _ => .none
  | 0x4#4 => .some (.movBStoreIdx c b)
  | 0x5#4 => .some (.movWStoreIdx c b)
  | 0x6#4 => .some (.movLStoreIdx c b)
  | 0x7#4 => .some (.mulL c b)
  | 0x8#4 =>
    match c with
    | 0x0#4 => if b = 0x0#4 then .some .clrt else .none
    | 0x1#4 => if b = 0x0#4 then .some .sett else .none
    | 0x2#4 => if b = 0x0#4 then .some .clrmac else .none
    | 0x3#4 => if b = 0x0#4 then .some .ldtlb else .none
    | 0x4#4 => if b = 0x0#4 then .some .clrs else .none
    | 0x5#4 => if b = 0x0#4 then .some .sets else .none
    | _ => .none
  | 0x9#4 =>
    match c with
    | 0x0#4 => if b = 0x0#4 then .some .nop else .none
    | 0x1#4 => if b = 0x0#4 then .some .div0u else .none
    | 0x2#4 => .some (.movt b)
    | _ => .none
  | 0xA#4 =>
    match c with
    | 0x0#4 => .some (.stsMach b)
    | 0x1#4 => .some (.stsMacl b)
    | 0x2#4 => .some (.stsPr b)
    | _ => .none
  | 0xB#4 =>
    match c with
    | 0x0#4 => if b = 0x0#4 then .some .rts else .none
    | 0x1#4 => if b = 0x0#4 then .some .sleep else .none
    | 0x2#4 => if b = 0x0#4 then .some .rte else .none
    | _ => .none
  | 0xC#4 => .some (.movBLoadIdx c b)
  | 0xD#4 => .some (.movWLoadIdx c b)
  | 0xE#4 => .some (.movLLoadIdx c b)
  | 0xF#4 => .some (.macL c b)
  | _ => .none

/-- The words whose top field is 0010 (R117). -/
def decodeGroup2 (b c d : BitVec 4) : Option Instr :=
  match d with
  | 0x0#4 => .some (.movBStore c b)
  | 0x1#4 => .some (.movWStore c b)
  | 0x2#4 => .some (.movLStore c b)
  | 0x4#4 => .some (.movBPreDec c b)
  | 0x5#4 => .some (.movWPreDec c b)
  | 0x6#4 => .some (.movLPreDec c b)
  | 0x7#4 => .some (.div0s c b)
  | 0x8#4 => .some (.tst c b)
  | 0x9#4 => .some (.and c b)
  | 0xA#4 => .some (.xor c b)
  | 0xB#4 => .some (.or c b)
  | 0xC#4 => .some (.cmpStr c b)
  | 0xD#4 => .some (.xtrct c b)
  | 0xE#4 => .some (.muluW c b)
  | 0xF#4 => .some (.mulsW c b)
  | _ => .none

/-- The words whose top field is 0011 (R117). -/
def decodeGroup3 (b c d : BitVec 4) : Option Instr :=
  match d with
  | 0x0#4 => .some (.cmpEq c b)
  | 0x2#4 => .some (.cmpHs c b)
  | 0x3#4 => .some (.cmpGe c b)
  | 0x4#4 => .some (.div1 c b)
  | 0x5#4 => .some (.dmuluL c b)
  | 0x6#4 => .some (.cmpHi c b)
  | 0x7#4 => .some (.cmpGt c b)
  | 0x8#4 => .some (.sub c b)
  | 0xA#4 => .some (.subc c b)
  | 0xB#4 => .some (.subv c b)
  | 0xC#4 => .some (.add c b)
  | 0xD#4 => .some (.dmulsL c b)
  | 0xE#4 => .some (.addc c b)
  | 0xF#4 => .some (.addv c b)
  | _ => .none

/-- The words whose top field is 0100 (R117). -/
def decodeGroup4 (b c d : BitVec 4) : Option Instr :=
  match d with
  | 0x0#4 =>
    match c with
    | 0x0#4 => .some (.shll b)
    | 0x1#4 => .some (.dt b)
    | 0x2#4 => .some (.shal b)
    | _ => .none
  | 0x1#4 =>
    match c with
    | 0x0#4 => .some (.shlr b)
    | 0x1#4 => .some (.cmpPz b)
    | 0x2#4 => .some (.shar b)
    | _ => .none
  | 0x2#4 =>
    match c with
    | 0x0#4 => .some (.stsLMach b)
    | 0x1#4 => .some (.stsLMacl b)
    | 0x2#4 => .some (.stsLPr b)
    | _ => .none
  | 0x3#4 =>
    match c with
    | 0x0#4 => .some (.stcLSr b)
    | 0x1#4 => .some (.stcLGbr b)
    | 0x2#4 => .some (.stcLVbr b)
    | 0x3#4 => .some (.stcLSsr b)
    | 0x4#4 => .some (.stcLSpc b)
    | 0x8#4 => .some (.stcLR0Bank b)
    | 0x9#4 => .some (.stcLR1Bank b)
    | 0xA#4 => .some (.stcLR2Bank b)
    | 0xB#4 => .some (.stcLR3Bank b)
    | 0xC#4 => .some (.stcLR4Bank b)
    | 0xD#4 => .some (.stcLR5Bank b)
    | 0xE#4 => .some (.stcLR6Bank b)
    | 0xF#4 => .some (.stcLR7Bank b)
    | _ => .none
  | 0x4#4 =>
    match c with
    | 0x0#4 => .some (.rotl b)
    | 0x2#4 => .some (.rotcl b)
    | _ => .none
  | 0x5#4 =>
    match c with
    | 0x0#4 => .some (.rotr b)
    | 0x1#4 => .some (.cmpPl b)
    | 0x2#4 => .some (.rotcr b)
    | _ => .none
  | 0x6#4 =>
    match c with
    | 0x0#4 => .some (.ldsLMach b)
    | 0x1#4 => .some (.ldsLMacl b)
    | 0x2#4 => .some (.ldsLPr b)
    | _ => .none
  | 0x7#4 =>
    match c with
    | 0x0#4 => .some (.ldcLSr b)
    | 0x1#4 => .some (.ldcLGbr b)
    | 0x2#4 => .some (.ldcLVbr b)
    | 0x3#4 => .some (.ldcLSsr b)
    | 0x4#4 => .some (.ldcLSpc b)
    | 0x8#4 => .some (.ldcLR0Bank b)
    | 0x9#4 => .some (.ldcLR1Bank b)
    | 0xA#4 => .some (.ldcLR2Bank b)
    | 0xB#4 => .some (.ldcLR3Bank b)
    | 0xC#4 => .some (.ldcLR4Bank b)
    | 0xD#4 => .some (.ldcLR5Bank b)
    | 0xE#4 => .some (.ldcLR6Bank b)
    | 0xF#4 => .some (.ldcLR7Bank b)
    | _ => .none
  | 0x8#4 =>
    match c with
    | 0x0#4 => .some (.shll2 b)
    | 0x1#4 => .some (.shll8 b)
    | 0x2#4 => .some (.shll16 b)
    | _ => .none
  | 0x9#4 =>
    match c with
    | 0x0#4 => .some (.shlr2 b)
    | 0x1#4 => .some (.shlr8 b)
    | 0x2#4 => .some (.shlr16 b)
    | _ => .none
  | 0xA#4 =>
    match c with
    | 0x0#4 => .some (.ldsMach b)
    | 0x1#4 => .some (.ldsMacl b)
    | 0x2#4 => .some (.ldsPr b)
    | _ => .none
  | 0xB#4 =>
    match c with
    | 0x0#4 => .some (.jsr b)
    | 0x1#4 => .some (.tasB b)
    | 0x2#4 => .some (.jmp b)
    | _ => .none
  | 0xC#4 => .some (.shad c b)
  | 0xD#4 => .some (.shld c b)
  | 0xE#4 =>
    match c with
    | 0x0#4 => .some (.ldcSr b)
    | 0x1#4 => .some (.ldcGbr b)
    | 0x2#4 => .some (.ldcVbr b)
    | 0x3#4 => .some (.ldcSsr b)
    | 0x4#4 => .some (.ldcSpc b)
    | 0x8#4 => .some (.ldcR0Bank b)
    | 0x9#4 => .some (.ldcR1Bank b)
    | 0xA#4 => .some (.ldcR2Bank b)
    | 0xB#4 => .some (.ldcR3Bank b)
    | 0xC#4 => .some (.ldcR4Bank b)
    | 0xD#4 => .some (.ldcR5Bank b)
    | 0xE#4 => .some (.ldcR6Bank b)
    | 0xF#4 => .some (.ldcR7Bank b)
    | _ => .none
  | _ /- 0xF -/ => .some (.macW c b)

/-- The words whose top field is 0110 (R117). -/
def decodeGroup6 (b c d : BitVec 4) : Option Instr :=
  match d with
  | 0x0#4 => .some (.movBLoad c b)
  | 0x1#4 => .some (.movWLoad c b)
  | 0x2#4 => .some (.movLLoad c b)
  | 0x3#4 => .some (.mov c b)
  | 0x4#4 => .some (.movBPostInc c b)
  | 0x5#4 => .some (.movWPostInc c b)
  | 0x6#4 => .some (.movLPostInc c b)
  | 0x7#4 => .some (.not c b)
  | 0x8#4 => .some (.swapB c b)
  | 0x9#4 => .some (.swapW c b)
  | 0xA#4 => .some (.negc c b)
  | 0xB#4 => .some (.neg c b)
  | 0xC#4 => .some (.extuB c b)
  | 0xD#4 => .some (.extuW c b)
  | 0xE#4 => .some (.extsB c b)
  | _ /- 0xF -/ => .some (.extsW c b)

/-- The words whose top field is 1000 (R117). -/
def decodeGroup8 (b c d : BitVec 4) : Option Instr :=
  match b with
  | 0x0#4 => .some (.movBStoreDisp d c)
  | 0x1#4 => .some (.movWStoreDisp d c)
  | 0x4#4 => .some (.movBLoadDisp d c)
  | 0x5#4 => .some (.movWLoadDisp d c)
  | 0x8#4 => .some (.cmpEqImm (c ++ d))
  | 0x9#4 => .some (.bt (c ++ d))
  | 0xB#4 => .some (.bf (c ++ d))
  | 0xD#4 => .some (.btS (c ++ d))
  | 0xF#4 => .some (.bfS (c ++ d))
  | _ => .none

/-- The words whose top field is 1100 (R117). -/
def decodeGroupC (b c d : BitVec 4) : Option Instr :=
  match b with
  | 0x0#4 => .some (.movBStoreGbr (c ++ d))
  | 0x1#4 => .some (.movWStoreGbr (c ++ d))
  | 0x2#4 => .some (.movLStoreGbr (c ++ d))
  | 0x3#4 => .some (.trapa (c ++ d))
  | 0x4#4 => .some (.movBLoadGbr (c ++ d))
  | 0x5#4 => .some (.movWLoadGbr (c ++ d))
  | 0x6#4 => .some (.movLLoadGbr (c ++ d))
  | 0x7#4 => .some (.mova (c ++ d))
  | 0x8#4 => .some (.tstImm (c ++ d))
  | 0x9#4 => .some (.andImm (c ++ d))
  | 0xA#4 => .some (.xorImm (c ++ d))
  | 0xB#4 => .some (.orImm (c ++ d))
  | 0xC#4 => .some (.tstB (c ++ d))
  | 0xD#4 => .some (.andB (c ++ d))
  | 0xE#4 => .some (.xorB (c ++ d))
  | _ /- 0xF -/ => .some (.orB (c ++ d))

/-- The instruction of the word whose fields are a, b, c, d (bits 15 to 12, 11 to 8, 7 to 4, 3 to 0), if a pattern
of R123 matches it. -/
def decodeNibbles (a b c d : BitVec 4) : Option Instr :=
  match a with
  | 0x0#4 => decodeGroup0 b c d
  | 0x1#4 => .some (.movLStoreDisp c d b)
  | 0x2#4 => decodeGroup2 b c d
  | 0x3#4 => decodeGroup3 b c d
  | 0x4#4 => decodeGroup4 b c d
  | 0x5#4 => .some (.movLLoadDisp d c b)
  | 0x6#4 => decodeGroup6 b c d
  | 0x7#4 => .some (.addImm (c ++ d) b)
  | 0x8#4 => decodeGroup8 b c d
  | 0x9#4 => .some (.movWLoadPc (c ++ d) b)
  | 0xA#4 => .some (.bra (b ++ c ++ d))
  | 0xB#4 => .some (.bsr (b ++ c ++ d))
  | 0xC#4 => decodeGroupC b c d
  | 0xD#4 => .some (.movLLoadPc (c ++ d) b)
  | 0xE#4 => .some (.movImm (c ++ d) b)
  | _ => .none

/-- Bits 4k + 3 to 4k of an instruction word. -/
def nibble (w : Half) (k : Nat) : BitVec 4 := w.extractLsb' (4 * k) 4

/-- Decoding an instruction word (R116): the one instruction whose pattern matches, or the word rejected as undefined
code (R124). -/
def decode (w : Half) : Except DecodeError Instr :=
  match decodeNibbles (nibble w 3) (nibble w 2) (nibble w 1) (nibble w 0) with
  | .some i => .ok i
  | .none => .error (.undefinedCode w)

/-- The word of the two bytes stored at an address and the next one, in the byte order of R73. -/
def halfOfBytes (littleEndian : Bool) (b0 b1 : Byte) : Half :=
  if littleEndian then b1 ++ b0 else b0 ++ b1

/-- The two bytes of a word, in the order in which they stand in memory (R73). -/
def bytesOfHalf (littleEndian : Bool) (w : Half) : Byte × Byte :=
  let hi : Byte := w.extractLsb' 8 8
  let lo : Byte := w.extractLsb' 0 8
  if littleEndian then (lo, hi) else (hi, lo)

/-- Decoding the bytes of memory from an address on: the instruction and the bytes after it (R110, R73). -/
def decodeBytes (littleEndian : Bool) : List Byte → Except DecodeError (Instr × List Byte)
  | b0 :: b1 :: rest => (decode (halfOfBytes littleEndian b0 b1)).map fun i => (i, rest)
  | _ => .error .tooShort

/-- The instruction the decoder reads from the bits `w` of an instruction of `nbits` bits, laid out as the hardware
stores it (big endian). Every instruction has 16 bits (R110). -/
def decodeTableWord (nbits w : Nat) : Option Instr :=
  let (b0, b1) := bytesOfHalf false (BitVec.ofNat 16 (w % 2 ^ nbits))
  match decodeBytes false [b0, b1] with
  | .ok (i, _) => .some i
  | .error _ => .none

/-- The word whose four fields, from bit 15 down, are a, b, c, d. -/
def join (a b c d : BitVec 4) : Half := a ++ b ++ c ++ d

/-- The word of a format that ends in an 8-bit field (formats d, i, ni, nd8 of R111). -/
def joinByte (a b : BitVec 4) (low : BitVec 8) : Half := a ++ b ++ low

/-- The word of a format that ends in a 12-bit displacement (format d12 of R111). -/
def joinDisp12 (a : BitVec 4) (low : BitVec 12) : Half := a ++ low

/-- The word of an instruction, written from the patterns of R123. -/
def encode : Instr → Half
  | .movImm imm n => joinByte 0xE#4 n imm
  | .movWLoadPc disp n => joinByte 0x9#4 n disp
  | .movLLoadPc disp n => joinByte 0xD#4 n disp
  | .mov m n => join 0x6#4 n m 0x3#4
  | .movBStore m n => join 0x2#4 n m 0x0#4
  | .movWStore m n => join 0x2#4 n m 0x1#4
  | .movLStore m n => join 0x2#4 n m 0x2#4
  | .movBLoad m n => join 0x6#4 n m 0x0#4
  | .movWLoad m n => join 0x6#4 n m 0x1#4
  | .movLLoad m n => join 0x6#4 n m 0x2#4
  | .movBPreDec m n => join 0x2#4 n m 0x4#4
  | .movWPreDec m n => join 0x2#4 n m 0x5#4
  | .movLPreDec m n => join 0x2#4 n m 0x6#4
  | .movBPostInc m n => join 0x6#4 n m 0x4#4
  | .movWPostInc m n => join 0x6#4 n m 0x5#4
  | .movLPostInc m n => join 0x6#4 n m 0x6#4
  | .movBStoreDisp disp n => join 0x8#4 0x0#4 n disp
  | .movWStoreDisp disp n => join 0x8#4 0x1#4 n disp
  | .movLStoreDisp m disp n => join 0x1#4 n m disp
  | .movBLoadDisp disp m => join 0x8#4 0x4#4 m disp
  | .movWLoadDisp disp m => join 0x8#4 0x5#4 m disp
  | .movLLoadDisp disp m n => join 0x5#4 n m disp
  | .movBStoreIdx m n => join 0x0#4 n m 0x4#4
  | .movWStoreIdx m n => join 0x0#4 n m 0x5#4
  | .movLStoreIdx m n => join 0x0#4 n m 0x6#4
  | .movBLoadIdx m n => join 0x0#4 n m 0xC#4
  | .movWLoadIdx m n => join 0x0#4 n m 0xD#4
  | .movLLoadIdx m n => join 0x0#4 n m 0xE#4
  | .movBStoreGbr disp => joinByte 0xC#4 0x0#4 disp
  | .movWStoreGbr disp => joinByte 0xC#4 0x1#4 disp
  | .movLStoreGbr disp => joinByte 0xC#4 0x2#4 disp
  | .movBLoadGbr disp => joinByte 0xC#4 0x4#4 disp
  | .movWLoadGbr disp => joinByte 0xC#4 0x5#4 disp
  | .movLLoadGbr disp => joinByte 0xC#4 0x6#4 disp
  | .mova disp => joinByte 0xC#4 0x7#4 disp
  | .movt n => join 0x0#4 n 0x2#4 0x9#4
  | .pref n => join 0x0#4 n 0x8#4 0x3#4
  | .swapB m n => join 0x6#4 n m 0x8#4
  | .swapW m n => join 0x6#4 n m 0x9#4
  | .xtrct m n => join 0x2#4 n m 0xD#4
  | .add m n => join 0x3#4 n m 0xC#4
  | .addImm imm n => joinByte 0x7#4 n imm
  | .addc m n => join 0x3#4 n m 0xE#4
  | .addv m n => join 0x3#4 n m 0xF#4
  | .cmpEqImm imm => joinByte 0x8#4 0x8#4 imm
  | .cmpEq m n => join 0x3#4 n m 0x0#4
  | .cmpHs m n => join 0x3#4 n m 0x2#4
  | .cmpGe m n => join 0x3#4 n m 0x3#4
  | .cmpHi m n => join 0x3#4 n m 0x6#4
  | .cmpGt m n => join 0x3#4 n m 0x7#4
  | .cmpPz n => join 0x4#4 n 0x1#4 0x1#4
  | .cmpPl n => join 0x4#4 n 0x1#4 0x5#4
  | .cmpStr m n => join 0x2#4 n m 0xC#4
  | .div1 m n => join 0x3#4 n m 0x4#4
  | .div0s m n => join 0x2#4 n m 0x7#4
  | .div0u => join 0x0#4 0x0#4 0x1#4 0x9#4
  | .dmulsL m n => join 0x3#4 n m 0xD#4
  | .dmuluL m n => join 0x3#4 n m 0x5#4
  | .dt n => join 0x4#4 n 0x1#4 0x0#4
  | .extsB m n => join 0x6#4 n m 0xE#4
  | .extsW m n => join 0x6#4 n m 0xF#4
  | .extuB m n => join 0x6#4 n m 0xC#4
  | .extuW m n => join 0x6#4 n m 0xD#4
  | .macL m n => join 0x0#4 n m 0xF#4
  | .macW m n => join 0x4#4 n m 0xF#4
  | .mulL m n => join 0x0#4 n m 0x7#4
  | .mulsW m n => join 0x2#4 n m 0xF#4
  | .muluW m n => join 0x2#4 n m 0xE#4
  | .neg m n => join 0x6#4 n m 0xB#4
  | .negc m n => join 0x6#4 n m 0xA#4
  | .sub m n => join 0x3#4 n m 0x8#4
  | .subc m n => join 0x3#4 n m 0xA#4
  | .subv m n => join 0x3#4 n m 0xB#4
  | .and m n => join 0x2#4 n m 0x9#4
  | .andImm imm => joinByte 0xC#4 0x9#4 imm
  | .andB imm => joinByte 0xC#4 0xD#4 imm
  | .not m n => join 0x6#4 n m 0x7#4
  | .or m n => join 0x2#4 n m 0xB#4
  | .orImm imm => joinByte 0xC#4 0xB#4 imm
  | .orB imm => joinByte 0xC#4 0xF#4 imm
  | .tasB n => join 0x4#4 n 0x1#4 0xB#4
  | .tst m n => join 0x2#4 n m 0x8#4
  | .tstImm imm => joinByte 0xC#4 0x8#4 imm
  | .tstB imm => joinByte 0xC#4 0xC#4 imm
  | .xor m n => join 0x2#4 n m 0xA#4
  | .xorImm imm => joinByte 0xC#4 0xA#4 imm
  | .xorB imm => joinByte 0xC#4 0xE#4 imm
  | .rotl n => join 0x4#4 n 0x0#4 0x4#4
  | .rotr n => join 0x4#4 n 0x0#4 0x5#4
  | .rotcl n => join 0x4#4 n 0x2#4 0x4#4
  | .rotcr n => join 0x4#4 n 0x2#4 0x5#4
  | .shad m n => join 0x4#4 n m 0xC#4
  | .shal n => join 0x4#4 n 0x2#4 0x0#4
  | .shar n => join 0x4#4 n 0x2#4 0x1#4
  | .shld m n => join 0x4#4 n m 0xD#4
  | .shll n => join 0x4#4 n 0x0#4 0x0#4
  | .shlr n => join 0x4#4 n 0x0#4 0x1#4
  | .shll2 n => join 0x4#4 n 0x0#4 0x8#4
  | .shlr2 n => join 0x4#4 n 0x0#4 0x9#4
  | .shll8 n => join 0x4#4 n 0x1#4 0x8#4
  | .shlr8 n => join 0x4#4 n 0x1#4 0x9#4
  | .shll16 n => join 0x4#4 n 0x2#4 0x8#4
  | .shlr16 n => join 0x4#4 n 0x2#4 0x9#4
  | .bf disp => joinByte 0x8#4 0xB#4 disp
  | .bfS disp => joinByte 0x8#4 0xF#4 disp
  | .bt disp => joinByte 0x8#4 0x9#4 disp
  | .btS disp => joinByte 0x8#4 0xD#4 disp
  | .bra disp => joinDisp12 0xA#4 disp
  | .braf n => join 0x0#4 n 0x2#4 0x3#4
  | .bsr disp => joinDisp12 0xB#4 disp
  | .bsrf n => join 0x0#4 n 0x0#4 0x3#4
  | .jmp n => join 0x4#4 n 0x2#4 0xB#4
  | .jsr n => join 0x4#4 n 0x0#4 0xB#4
  | .rts => join 0x0#4 0x0#4 0x0#4 0xB#4
  | .clrmac => join 0x0#4 0x0#4 0x2#4 0x8#4
  | .clrs => join 0x0#4 0x0#4 0x4#4 0x8#4
  | .clrt => join 0x0#4 0x0#4 0x0#4 0x8#4
  | .ldcSr m => join 0x4#4 m 0x0#4 0xE#4
  | .ldcGbr m => join 0x4#4 m 0x1#4 0xE#4
  | .ldcVbr m => join 0x4#4 m 0x2#4 0xE#4
  | .ldcSsr m => join 0x4#4 m 0x3#4 0xE#4
  | .ldcSpc m => join 0x4#4 m 0x4#4 0xE#4
  | .ldcR0Bank m => join 0x4#4 m 0x8#4 0xE#4
  | .ldcR1Bank m => join 0x4#4 m 0x9#4 0xE#4
  | .ldcR2Bank m => join 0x4#4 m 0xA#4 0xE#4
  | .ldcR3Bank m => join 0x4#4 m 0xB#4 0xE#4
  | .ldcR4Bank m => join 0x4#4 m 0xC#4 0xE#4
  | .ldcR5Bank m => join 0x4#4 m 0xD#4 0xE#4
  | .ldcR6Bank m => join 0x4#4 m 0xE#4 0xE#4
  | .ldcR7Bank m => join 0x4#4 m 0xF#4 0xE#4
  | .ldcLSr m => join 0x4#4 m 0x0#4 0x7#4
  | .ldcLGbr m => join 0x4#4 m 0x1#4 0x7#4
  | .ldcLVbr m => join 0x4#4 m 0x2#4 0x7#4
  | .ldcLSsr m => join 0x4#4 m 0x3#4 0x7#4
  | .ldcLSpc m => join 0x4#4 m 0x4#4 0x7#4
  | .ldcLR0Bank m => join 0x4#4 m 0x8#4 0x7#4
  | .ldcLR1Bank m => join 0x4#4 m 0x9#4 0x7#4
  | .ldcLR2Bank m => join 0x4#4 m 0xA#4 0x7#4
  | .ldcLR3Bank m => join 0x4#4 m 0xB#4 0x7#4
  | .ldcLR4Bank m => join 0x4#4 m 0xC#4 0x7#4
  | .ldcLR5Bank m => join 0x4#4 m 0xD#4 0x7#4
  | .ldcLR6Bank m => join 0x4#4 m 0xE#4 0x7#4
  | .ldcLR7Bank m => join 0x4#4 m 0xF#4 0x7#4
  | .ldsMach m => join 0x4#4 m 0x0#4 0xA#4
  | .ldsMacl m => join 0x4#4 m 0x1#4 0xA#4
  | .ldsPr m => join 0x4#4 m 0x2#4 0xA#4
  | .ldsLMach m => join 0x4#4 m 0x0#4 0x6#4
  | .ldsLMacl m => join 0x4#4 m 0x1#4 0x6#4
  | .ldsLPr m => join 0x4#4 m 0x2#4 0x6#4
  | .nop => join 0x0#4 0x0#4 0x0#4 0x9#4
  | .rte => join 0x0#4 0x0#4 0x2#4 0xB#4
  | .sets => join 0x0#4 0x0#4 0x5#4 0x8#4
  | .ldtlb => join 0x0#4 0x0#4 0x3#4 0x8#4
  | .sett => join 0x0#4 0x0#4 0x1#4 0x8#4
  | .sleep => join 0x0#4 0x0#4 0x1#4 0xB#4
  | .stcSr n => join 0x0#4 n 0x0#4 0x2#4
  | .stcGbr n => join 0x0#4 n 0x1#4 0x2#4
  | .stcVbr n => join 0x0#4 n 0x2#4 0x2#4
  | .stcSsr n => join 0x0#4 n 0x3#4 0x2#4
  | .stcSpc n => join 0x0#4 n 0x4#4 0x2#4
  | .stcR0Bank n => join 0x0#4 n 0x8#4 0x2#4
  | .stcR1Bank n => join 0x0#4 n 0x9#4 0x2#4
  | .stcR2Bank n => join 0x0#4 n 0xA#4 0x2#4
  | .stcR3Bank n => join 0x0#4 n 0xB#4 0x2#4
  | .stcR4Bank n => join 0x0#4 n 0xC#4 0x2#4
  | .stcR5Bank n => join 0x0#4 n 0xD#4 0x2#4
  | .stcR6Bank n => join 0x0#4 n 0xE#4 0x2#4
  | .stcR7Bank n => join 0x0#4 n 0xF#4 0x2#4
  | .stcLSr n => join 0x4#4 n 0x0#4 0x3#4
  | .stcLGbr n => join 0x4#4 n 0x1#4 0x3#4
  | .stcLVbr n => join 0x4#4 n 0x2#4 0x3#4
  | .stcLSsr n => join 0x4#4 n 0x3#4 0x3#4
  | .stcLSpc n => join 0x4#4 n 0x4#4 0x3#4
  | .stcLR0Bank n => join 0x4#4 n 0x8#4 0x3#4
  | .stcLR1Bank n => join 0x4#4 n 0x9#4 0x3#4
  | .stcLR2Bank n => join 0x4#4 n 0xA#4 0x3#4
  | .stcLR3Bank n => join 0x4#4 n 0xB#4 0x3#4
  | .stcLR4Bank n => join 0x4#4 n 0xC#4 0x3#4
  | .stcLR5Bank n => join 0x4#4 n 0xD#4 0x3#4
  | .stcLR6Bank n => join 0x4#4 n 0xE#4 0x3#4
  | .stcLR7Bank n => join 0x4#4 n 0xF#4 0x3#4
  | .stsMach n => join 0x0#4 n 0x0#4 0xA#4
  | .stsMacl n => join 0x0#4 n 0x1#4 0xA#4
  | .stsPr n => join 0x0#4 n 0x2#4 0xA#4
  | .stsLMach n => join 0x4#4 n 0x0#4 0x2#4
  | .stsLMacl n => join 0x4#4 n 0x1#4 0x2#4
  | .stsLPr n => join 0x4#4 n 0x2#4 0x2#4
  | .trapa imm => joinByte 0xC#4 0x3#4 imm

end Sys2Proof
end

