-- ==== Sys2Proof/Machine/Platform.lean ====
section
/-! DEFINITION. The parameters that the manual leaves to the platform, the pins or another document, as plain data
(00_scope.md R8; 93_implementation_defined.md U3, U6, U27, U28). A state carries them, so a statement about every state
holds for every platform. The byte order, the memory map and the host's inputs are fields of the state of their own;
the index function of the TLB (`TLBIndex`) is a constant of Config. -/

namespace Sys2Proof.Machine

/-- The registers that loads and stores can reach at fixed addresses (R45 to R50, R52). -/
inductive CtrlReg where
  | pteh | ptel | mmucr | tra | expevt | intevt | stbcr
  deriving DecidableEq, Repr

/-- The entries of `ExcCode` and `VecOffset` for one exception (R8, R441). -/
structure ExcParam where
  /-- What EXPEVT receives. -/
  code : BitVec 12
  /-- What is added to VBR. -/
  offset : Word
  deriving DecidableEq, Repr

/-- The parameter `CtrlRegAddr` (R8, R52): where each register stands in the address space, or `none` for a register
that is kept outside it. -/
structure CtrlRegAddr where
  pteh : Option Word
  ptel : Option Word
  mmucr : Option Word
  tra : Option Word
  expevt : Option Word
  intevt : Option Word
  stbcr : Option Word
  deriving DecidableEq, Repr

/-- The parameters of R8 that the platform fixes once and for all, and the bit positions that U6 leaves to it. TRAPA's
code and offset are the manual's own (R7) and no parameters. -/
structure Platform where
  /-- `ExcCode` of a power-on reset. -/
  powerOnCode : BitVec 12
  /-- `ExcCode` of a manual reset and of the reset of R451. -/
  manualCode : BitVec 12
  /-- AddressError on a read; a fetch has the same code (R77). -/
  readError : ExcParam
  /-- `VecOffset` of AddressError on a fetch. -/
  fetchOffset : Word
  /-- AddressError on a write. -/
  writeError : ExcParam
  /-- IllegalInstruction. -/
  illegal : ExcParam
  /-- SlotIllegalInstruction. -/
  slotIllegal : ExcParam
  /-- `VecOffset` of an interrupt. -/
  interruptOffset : Word
  /-- `IntEvtRegister`: where the code of an accepted interrupt is recorded (R50, R453). -/
  interruptRegister : CtrlReg
  /-- `CtrlRegAddr`. -/
  ctrlRegAddr : CtrlRegAddr
  /-- `ResetSR_MD_RB_BL`: SR.MD after a reset. -/
  resetMd : Bool
  /-- `ResetSR_MD_RB_BL`: SR.RB after a reset. -/
  resetRb : Bool
  /-- `ResetSR_MD_RB_BL`: SR.BL after a reset. -/
  resetBl : Bool
  /-- The lower bit of the two-bit field MMUCR.RC (R48, U6). -/
  rcBit : Fin 31
  /-- The bit MMUCR.AT (R48, U6). -/
  atBit : Fin 32
  /-- The bit STBCR.STBY (R49, U6). -/
  stbyBit : Fin 8
  /-- `TLBWays`: how many ways the TLB has (R53). -/
  tlbWays : Nat
  /-- `TLBEntries`: how many entries each way has (R53). -/
  tlbEntries : Nat
  deriving DecidableEq, Repr

/-- The defaults that R8 names: the tables of R52 and R441, a register INTEVT, MD = RB = BL = 1, four ways; and where
R8 names none, the family's bit positions and number of TLB entries. PRESUMED but for PTEL's address, MD and the ways
(log entries 2 to 4, 13 and 19). -/
def Platform.family : Platform where
  powerOnCode := 0x000#12
  manualCode := 0x020#12
  readError := { code := 0x0E0#12, offset := 0x100#32 }
  fetchOffset := 0x100#32
  writeError := { code := 0x100#12, offset := 0x100#32 }
  illegal := { code := 0x180#12, offset := 0x100#32 }
  slotIllegal := { code := 0x1A0#12, offset := 0x100#32 }
  interruptOffset := 0x600#32
  interruptRegister := .intevt
  ctrlRegAddr :=
    { pteh := some 0xFFFFFFF0#32
      ptel := some 0xFFFFFFF4#32
      mmucr := some 0xFFFFFFE0#32
      tra := some 0xFFFFFFD0#32
      expevt := some 0xFFFFFFD4#32
      intevt := some 0xFFFFFFD8#32
      stbcr := some 0xFFFFFF82#32 }
  resetMd := true
  resetRb := true
  resetBl := true
  rcBit := 4
  atBit := 0
  stbyBit := 7
  tlbWays := 4
  tlbEntries := 32

end Sys2Proof.Machine
end

