-- ==== Sys2Proof/Machine/State.lean ====
section
/-! DEFINITION. The state of the machine as plain data: every piece of state the spec gives it (10_state.md, summed up
in R58 and R59), the platform's parameters (00_scope.md R8), and the model's own counter of free values. INVENTORY.md
lists each field with its rule and its reset value. -/

namespace Sys2Proof.Machine

/-- The general registers: 24 of them, R0 to R7 in two banks and R8 to R15 once (R21). -/
structure Gpr where
  /-- R0_BANK0 to R7_BANK0. -/
  bank0 : Vector Word 8
  /-- R0_BANK1 to R7_BANK1. -/
  bank1 : Vector Word 8
  /-- R8 to R15. -/
  common : Vector Word 8
  deriving DecidableEq, Repr

/-- One of the 24 physical general registers (R21). -/
inductive PhysReg where
  /-- Rj_BANK0. -/
  | bank0 (j : Fin 8)
  /-- Rj_BANK1. -/
  | bank1 (j : Fin 8)
  /-- R8 to R15, numbered from 0. -/
  | common (j : Fin 8)
  deriving DecidableEq, Repr

/-- The processing states that last longer than a step (R56). -/
inductive Mode where
  | running | sleeping | standby
  deriving DecidableEq, Repr

/-- The kinds of access to an address (R75 to R77). -/
inductive AccessKind where
  | fetch | read | write
  deriving DecidableEq, Repr

/-- The sizes of data (R11). -/
inductive Size where
  | byte | word | long
  deriving DecidableEq, Repr

/-- What a region's addresses hold (R71). An address that no region names is ordinary memory (R86), and the control
registers of R52 come before memory and devices. -/
inductive RegionKind where
  /-- Ordinary memory. -/
  | memory
  /-- Device registers: the host answers the reads and observes the writes (R96); a fetch is an address error (R77). -/
  | device
  /-- Nothing. The spec names the class and no effect: every access that meets the region is an address error (DESIGN
  CHOICE, log entry 39). -/
  | unmapped
  deriving DecidableEq, Repr

/-- One entry of the platform's memory map (R71, R82): an address range, what it holds, and what it forbids. -/
structure Region where
  /-- First address. -/
  base : Nat
  /-- How many bytes. -/
  bytes : Nat
  /-- What its addresses hold (R71). -/
  kind : RegionKind
  /-- The accesses that are address errors in either mode (R82). -/
  forbidden : List (AccessKind × Size)
  /-- The accesses that are address errors in user mode only (R82). -/
  userForbidden : List (AccessKind × Size)
  deriving DecidableEq, Repr

/-- An event exchanged with the host (R96). -/
inductive DeviceEvent where
  /-- The CPU read a device register, and the host supplied the value. -/
  | read (addr : Word) (size : Size) (value : Word)
  /-- The CPU wrote a device register. -/
  | write (addr : Word) (size : Size) (value : Word)
  deriving DecidableEq, Repr

/-- An entry of the TLB that LDTLB has written (R53, R370). -/
structure TlbEntry where
  index : Nat
  way : Nat
  tag : Word
  data : Word
  deriving DecidableEq, Repr

/-- The two kinds of reset (R480). -/
inductive ResetKind where
  | powerOn | manual
  deriving DecidableEq, Repr

/-- An interrupt request (R450): its level (1 to 16; level 0 never exceeds a mask) and the code INTEVT receives. -/
structure IntReq where
  level : Fin 17
  code : Word
  deriving DecidableEq, Repr

/-- What the host presents at one instruction boundary (R17). -/
structure HostInput where
  /-- A reset of the kind given (R480). -/
  reset : Option ResetKind
  /-- The level that pin MD5 has from this boundary on, high = true; none where it keeps its level (R73, R480). -/
  md5 : Option Bool
  /-- An interrupt request (R450). -/
  request : Option IntReq
  /-- The values that the host supplies to the coming reads of device registers, after those it has supplied before
  (R96). -/
  answers : List Word
  deriving DecidableEq, Repr

/-- The state of the machine. -/
structure State where
  /-- The general registers (R20, R21). -/
  gpr : Gpr
  /-- The status register (R31). -/
  sr : Word
  /-- The global base register (R29). -/
  gbr : Word
  /-- The vector base register (R30). -/
  vbr : Word
  /-- The saved status register (R43). -/
  ssr : Word
  /-- The saved program counter (R44). -/
  spc : Word
  /-- The upper half of the accumulator (R26). -/
  mach : Word
  /-- The lower half of the accumulator (R26). -/
  macl : Word
  /-- The procedure register (R27). -/
  pr : Word
  /-- The address of the instruction being executed (R28, R41). -/
  pc : Word
  /-- EXPEVT11 to EXPEVT0 (R45). -/
  expevt : BitVec 12
  /-- TRA9 to TRA2 (R46). -/
  tra : BitVec 8
  /-- The code of the last interrupt accepted (R50, R453). -/
  intevt : Word
  /-- PTEH (R47). -/
  pteh : Word
  /-- PTEL (R47). -/
  ptel : Word
  /-- The MMU control register, with RC and AT (R48). -/
  mmucr : Word
  /-- The standby control register, with STBY and the MSTP bits (R49). -/
  stbcr : Byte
  /-- What LDTLB has written, by rising index and way (R53). -/
  tlb : List TlbEntry
  /-- Memory: the bytes that differ from what an unlisted address reads as, by rising address (R70, R71). -/
  mem : List Host.Cell
  /-- The byte order: the level of pin MD5 at the last reset (R73, R480). -/
  littleEndian : Bool
  /-- The level of pin MD5, high = true, which every reset samples (R73, R480). -/
  md5 : Bool
  /-- The destination of a delayed branch whose slot instruction comes next (R55). -/
  pending : Option Word
  /-- The processing state (R56). -/
  mode : Mode
  /-- The platform's memory map (R82, R86). -/
  memMap : List Region
  /-- The platform's other parameters (R8). -/
  platform : Platform
  /-- What the host supplies to the coming reads of device registers, one value a read, in program order (R96). -/
  deviceIn : List Word
  /-- The reads and writes of device registers so far, in program order, the oldest first (R96). -/
  deviceOut : List DeviceEvent
  /-- The host's inputs at the coming instruction boundaries; an empty list stands for no further input (R17). -/
  inputs : List HostInput
  /-- The model's own: how many free values the run has used (log entry 34). -/
  freeCount : Nat
  deriving DecidableEq, Repr

/-- Why the machine stops with a fault: for no reason. Every cause the spec names is an exception that the machine
takes (R440, R442), so this type has no constructor (safe: nothing is cut short; log entry 35). -/
inductive Fault
  deriving DecidableEq, Repr

/-- Why an instruction has no meaning. -/
inductive Refusal where
  /-- The instruction's meaning has not been written. Raised by an arm of `exec` only; safe, since a run stops there. -/
  | notModelled (mnemonic : String)
  deriving DecidableEq, Repr

/-- What a step, or the meaning of an instruction, answers. -/
abbrev Result := Host.Outcome State Fault Refusal

/-- Eight registers that all hold 0. -/
def zeroBank : Vector Word 8 := Vector.replicate 8 0#32

/-- The machine right after a power-on reset (R58, R480, R481, R483). SR, VBR, pc, EXPEVT, pending and mode hold what
the spec states; what it calls undefined holds 0 (DESIGN CHOICE, unsafe, log entry 1; the family's values where the
family's layout is taken, log entries 2 to 4); no byte of memory is listed (log entry 6); pin MD5 low and so big endian
(log entry 5); the platform's parameters at their defaults (R8). -/
def State.reset : State where
  gpr := { bank0 := zeroBank, bank1 := zeroBank, common := zeroBank }
  sr := 0x700000F0#32
  gbr := 0#32
  vbr := 0#32
  ssr := 0#32
  spc := 0#32
  mach := 0#32
  macl := 0#32
  pr := 0#32
  pc := 0xA0000000#32
  expevt := 0x000#12
  tra := 0#8
  intevt := 0#32
  pteh := 0#32
  ptel := 0#32
  mmucr := 0#32
  stbcr := 0#8
  tlb := []
  mem := []
  littleEndian := false
  md5 := false
  pending := none
  mode := .running
  memMap := []
  platform := Platform.family
  deviceIn := []
  deviceOut := []
  inputs := []
  freeCount := 0

end Sys2Proof.Machine
end

