-- ==== Sys2Proof/Machine/Memory.lean ====
section
/-! DEFINITION. The two sparse stores of the state as canonical lists: memory (20_memory.md R71) and the TLB
(10_state.md R53). A canonical list rises strictly and lists nothing that an unlisted place would read as, so equal
contents are equal lists. -/

namespace Sys2Proof.Machine

/-- What a byte of memory that nothing has written reads as. The spec gives memory no reset contents (R483); 0 is the
model's (DESIGN CHOICE, unsafe, log entry 6). -/
def Memory.unlisted : Byte := 0#8

/-- The byte at an address. -/
def Memory.read : List Host.Cell → Nat → Byte
  | [], _ => Memory.unlisted
  | (k, b) :: rest, a => if k = a then b else Memory.read rest a

/-- A cell put in front, unless its byte is what the unlisted address reads as. -/
def Memory.cons (a : Nat) (b : Byte) (rest : List Host.Cell) : List Host.Cell :=
  if b = Memory.unlisted then rest else (a, b) :: rest

/-- Writing one byte. Writing what an unlisted address reads as removes the entry. -/
def Memory.write : List Host.Cell → Nat → Byte → List Host.Cell
  | [], a, b => Memory.cons a b []
  | (k, c) :: rest, a, b =>
    if a < k then Memory.cons a b ((k, c) :: rest)
    else if a = k then Memory.cons a b rest
    else (k, c) :: Memory.write rest a b

/-- The canonical form of memory: addresses below 2^32, strictly rising, and no entry that an unlisted address would
read as. -/
def Memory.wf : List Host.Cell → Bool
  | [] => true
  | (k, b) :: rest =>
    decide (k < 2 ^ 32) && decide (b ≠ Memory.unlisted) && rest.all (fun c => decide (k < c.1)) && Memory.wf rest

/-- The order of the TLB's list: by index, and by way within an index (R53). -/
def Tlb.before (e x : TlbEntry) : Bool := decide (e.index < x.index ∨ (e.index = x.index ∧ e.way < x.way))

/-- Writing one entry: it replaces the entry of the same index and way (R370). -/
def Tlb.write : List TlbEntry → TlbEntry → List TlbEntry
  | [], e => [e]
  | x :: rest, e =>
    if Tlb.before e x then e :: x :: rest
    else if Tlb.before x e then x :: Tlb.write rest e
    else e :: rest

/-- What LDTLB has written at an index and way, if anything. -/
def Tlb.find (l : List TlbEntry) (index way : Nat) : Option TlbEntry :=
  l.find? fun e => decide (e.index = index) && decide (e.way = way)

/-- The canonical form of the TLB: its entries rise strictly. -/
def Tlb.wf : List TlbEntry → Bool
  | [] => true
  | e :: rest => rest.all (Tlb.before e) && Tlb.wf rest

end Sys2Proof.Machine
end

