-- ==== Sys2Proof/Machine/StatusRegister.lean ====
section
/-! DEFINITION. The fields of SR (10_state.md R31 to R40): each is read by name here and nowhere else. SR itself stays
a bit vector, because STC and LDC read and write it whole. -/

namespace Sys2Proof.Machine

/-- A word with bit `i` set to `b`. -/
def setBit (w : Word) (i : Nat) (b : Bool) : Word :=
  if b then w ||| (1#32 <<< i) else w &&& ~~~(1#32 <<< i)

/-- A flag as a word: 0 or 1. -/
def ofFlag (b : Bool) : Word := if b then 1#32 else 0#32

/-- The bits of SR and SSR that can be written (R31, R39, R43). -/
def Sr.writable : Word := 0x700003F3#32

/-- MD, RB and BL together: what every exception entry sets (R445). -/
def Sr.entryBits : Word := 0x70000000#32

/-- MD, RB, BL and IMASK as a reset sets them (R480): the parameter `ResetSR_MD_RB_BL` (R8; at its default PRESUMED, log
entry 4), and IMASK = 15. -/
def Sr.resetBits (p : Platform) : Word :=
  setBit (setBit (setBit 0x000000F0#32 30 p.resetMd) 29 p.resetRb) 28 p.resetBl

/-- M, Q, S and T: the bits that a reset does not assign (R480, R482) and that user mode can reach (R40). -/
def Sr.userBits : Word := 0x00000303#32

/-- Bit 0 (R32). -/
def Sr.t (sr : Word) : Bool := sr.getLsbD 0
/-- Bit 1 (R33). -/
def Sr.s (sr : Word) : Bool := sr.getLsbD 1
/-- Bits 7 to 4 (R35). -/
def Sr.imask (sr : Word) : BitVec 4 := sr.extractLsb' 4 4
/-- Bit 8 (R34). -/
def Sr.q (sr : Word) : Bool := sr.getLsbD 8
/-- Bit 9 (R34). -/
def Sr.m (sr : Word) : Bool := sr.getLsbD 9
/-- Bit 28 (R36). -/
def Sr.bl (sr : Word) : Bool := sr.getLsbD 28
/-- Bit 29 (R37). -/
def Sr.rb (sr : Word) : Bool := sr.getLsbD 29
/-- Bit 30: privileged mode (R38). -/
def Sr.md (sr : Word) : Bool := sr.getLsbD 30

/-- SR with a new T. -/
def Sr.setT (sr : Word) (b : Bool) : Word := setBit sr 0 b
/-- SR with a new S. -/
def Sr.setS (sr : Word) (b : Bool) : Word := setBit sr 1 b
/-- SR with a new Q. -/
def Sr.setQ (sr : Word) (b : Bool) : Word := setBit sr 8 b
/-- SR with a new M. -/
def Sr.setM (sr : Word) (b : Bool) : Word := setBit sr 9 b

/-- The T bit of a state. -/
def State.t (s : State) : Bool := Sr.t s.sr
/-- The S bit of a state. -/
def State.satS (s : State) : Bool := Sr.s s.sr
/-- The Q bit of a state. -/
def State.q (s : State) : Bool := Sr.q s.sr
/-- The M bit of a state. -/
def State.m (s : State) : Bool := Sr.m s.sr
/-- The block bit of a state. -/
def State.bl (s : State) : Bool := Sr.bl s.sr
/-- The register bank bit of a state. -/
def State.rb (s : State) : Bool := Sr.rb s.sr
/-- The state is in privileged mode. -/
def State.md (s : State) : Bool := Sr.md s.sr

/-- A new SR. -/
def State.setSr (s : State) (v : Word) : State := { s with sr := v }
/-- A new T bit. -/
def State.setT (s : State) (b : Bool) : State := s.setSr (Sr.setT s.sr b)
/-- A new S bit. -/
def State.setS (s : State) (b : Bool) : State := s.setSr (Sr.setS s.sr b)
/-- A new Q bit. -/
def State.setQ (s : State) (b : Bool) : State := s.setSr (Sr.setQ s.sr b)
/-- A new M bit. -/
def State.setM (s : State) (b : Bool) : State := s.setSr (Sr.setM s.sr b)

end Sys2Proof.Machine
end

