-- ==== Sys2Proof/Machine/Ops.lean ====
section
/-! DEFINITION. The named operations on which every instruction's meaning stands: registers through their banks, the
memory-mapped control registers, memory, the advance of pc, the delayed branch, reset, taking an exception, and the
return from one. -/

namespace Sys2Proof.Machine

/-! ### General registers (10_state.md R20 to R23) -/

/-- The contents of a physical register. -/
def Gpr.read (g : Gpr) : PhysReg → Word
  | .bank0 j => g.bank0[j]
  | .bank1 j => g.bank1[j]
  | .common j => g.common[j]

/-- The general registers with one of them written. -/
def Gpr.write (g : Gpr) (p : PhysReg) (v : Word) : Gpr :=
  match p with
  | .bank0 j => { g with bank0 := g.bank0.set j v }
  | .bank1 j => { g with bank1 := g.bank1.set j v }
  | .common j => { g with common := g.common.set j v }

/-- The place of a register number in its group of eight. -/
def regIndex (n : RegNum) : Fin 8 := Fin.ofNat 8 n.toNat

/-- The physical register that number `n` selects under a status register (R22). -/
def physReg (sr : Word) (n : RegNum) : PhysReg :=
  if 8 ≤ n.toNat then .common (regIndex n)
  else if Sr.md sr && Sr.rb sr then .bank1 (regIndex n)
  else .bank0 (regIndex n)

/-- The banked register that LDC and STC reach as Rj_BANK under a status register (R23). -/
def otherReg (sr : Word) (j : Fin 8) : PhysReg :=
  if Sr.rb sr then .bank0 j else .bank1 j

/-- `R[n]` (R12, R22). -/
def State.reg (s : State) (n : RegNum) : Word := s.gpr.read (physReg s.sr n)

/-- `R[n] <- v` (R12, R22). -/
def State.setReg (s : State) (n : RegNum) (v : Word) : State :=
  { s with gpr := s.gpr.write (physReg s.sr n) v }

/-- `R_OTHER[j]` (R23). -/
def State.other (s : State) (j : Fin 8) : Word := s.gpr.read (otherReg s.sr j)

/-- `R_OTHER[j] <- v` (R23). -/
def State.setOther (s : State) (j : Fin 8) (v : Word) : State :=
  { s with gpr := s.gpr.write (otherReg s.sr j) v }

/-! ### The accumulator (10_state.md R26) -/

/-- MAC = MACH : MACL, 64 bits. -/
def State.mac (s : State) : BitVec 64 := s.mach ++ s.macl

/-- A new value of MACH : MACL. -/
def State.setMac (s : State) (v : BitVec 64) : State :=
  { s with mach := v.extractLsb' 32 32, macl := v.extractLsb' 0 32 }

/-- A new value of MACL alone. -/
def State.setMacl (s : State) (v : Word) : State := { s with macl := v }

/-- A new value of MACH alone. -/
def State.setMach (s : State) (v : Word) : State := { s with mach := v }

/-- A new value of PR. -/
def State.setPr (s : State) (v : Word) : State := { s with pr := v }

/-- A new value of GBR. -/
def State.setGbr (s : State) (v : Word) : State := { s with gbr := v }

/-- A new value of VBR. -/
def State.setVbr (s : State) (v : Word) : State := { s with vbr := v }

/-- A new value of SSR. -/
def State.setSsr (s : State) (v : Word) : State := { s with ssr := v }

/-- A new value of SPC. -/
def State.setSpc (s : State) (v : Word) : State := { s with spc := v }

/-! ### The memory-mapped control registers (10_state.md R45 to R52) -/

/-- Every one of them. -/
def CtrlReg.all : List CtrlReg := [.pteh, .ptel, .mmucr, .tra, .expevt, .intevt, .stbcr]

/-- Where the platform puts it, if anywhere: the parameter `CtrlRegAddr` (R52, R8). -/
def CtrlReg.addr (p : Platform) : CtrlReg → Option Word
  | .pteh => p.ctrlRegAddr.pteh
  | .ptel => p.ctrlRegAddr.ptel
  | .mmucr => p.ctrlRegAddr.mmucr
  | .tra => p.ctrlRegAddr.tra
  | .expevt => p.ctrlRegAddr.expevt
  | .intevt => p.ctrlRegAddr.intevt
  | .stbcr => p.ctrlRegAddr.stbcr

/-- How many bytes it occupies (R52). -/
def CtrlReg.bytes : CtrlReg → Nat
  | .stbcr => 1
  | _ => 4

/-- What a load of the whole register reads (R45, R46: bits that are not implemented read 0). -/
def CtrlReg.get (r : CtrlReg) (s : State) : Word :=
  match r with
  | .pteh => s.pteh
  | .ptel => s.ptel
  | .mmucr => s.mmucr
  | .tra => s.tra.setWidth 32 <<< 2
  | .expevt => s.expevt.setWidth 32
  | .intevt => s.intevt
  | .stbcr => s.stbcr.setWidth 32

/-- What a store of the whole register leaves: the implemented bits (log entry 15). -/
def CtrlReg.set (r : CtrlReg) (v : Word) (s : State) : State :=
  match r with
  | .pteh => { s with pteh := v }
  | .ptel => { s with ptel := v }
  | .mmucr => { s with mmucr := v }
  | .tra => { s with tra := v.extractLsb' 2 8 }
  | .expevt => { s with expevt := v.setWidth 12 }
  | .intevt => { s with intevt := v }
  | .stbcr => { s with stbcr := v.setWidth 8 }

/-- The register that occupies an address, and the offset of the address in it. Where a platform lets two registers
overlap, the first of the list has the address (log entry 15). -/
def ctrlByte (p : Platform) (a : Word) : Option (CtrlReg × Nat) :=
  CtrlReg.all.findSome? fun r =>
    match r.addr p with
    | none => none
    | some base => if (a - base).toNat < r.bytes then some (r, (a - base).toNat) else none

/-- Which byte of its register, counted from the least significant, lies at an offset, in the byte order of R73. -/
def CtrlReg.place (r : CtrlReg) (littleEndian : Bool) (k : Nat) : Nat :=
  if littleEndian then k else r.bytes - 1 - k

/-- Byte `i` of a word, counted from the least significant. -/
def byteAt (v : Word) (i : Nat) : Byte := v.extractLsb' (8 * i) 8

/-- A word with its byte `i` replaced. -/
def withByteAt (v : Word) (i : Nat) (b : Byte) : Word :=
  (v &&& ~~~(0xFF#32 <<< (8 * i))) ||| (b.setWidth 32 <<< (8 * i))

/-- MMUCR.RC, the way that LDTLB writes (R48), where the platform puts it (U6). -/
def State.rc (s : State) : BitVec 2 := s.mmucr.extractLsb' s.platform.rcBit.val 2

/-- MMUCR.AT: the MMU is on (R48), where the platform puts it (U6). It has no effect (R87, log entry 18). -/
def State.mmuOn (s : State) : Bool := s.mmucr.getLsbD s.platform.atBit.val

/-- STBCR.STBY: SLEEP enters standby (R49), where the platform puts it (U6). -/
def State.stby (s : State) : Bool := s.stbcr.getLsbD s.platform.stbyBit.val

/-! ### Memory (20_memory.md R70 to R82, R96) -/

/-- How many bytes a datum has (R11). -/
def Size.bytes : Size → Nat
  | .byte => 1
  | .word => 2
  | .long => 4

/-- The same number as an address offset. -/
def Size.step (z : Size) : Word := BitVec.ofNat 32 z.bytes

/-- The low bits of a word that a store of a size stores (R76). -/
def Size.low (z : Size) (v : Word) : Word :=
  match z with
  | .byte => v &&& 0x000000FF#32
  | .word => v &&& 0x0000FFFF#32
  | .long => v

/-- The region holds a byte of the access of `n` bytes at `a`. -/
def Region.meets (r : Region) (a : Word) (n : Nat) : Bool :=
  decide (a.toNat < r.base + r.bytes) && decide (r.base < a.toNat + n)

/-- The region makes this access an address error: any access where nothing is (log entry 39), a fetch from a device
(R77), and what it forbids, in user mode or in both modes (R82). -/
def Region.refuses (r : Region) (md : Bool) (k : AccessKind) (z : Size) : Bool :=
  r.kind == .unmapped || (k == .fetch && r.kind == .device) || r.forbidden.contains (k, z) ||
    (!md && r.userForbidden.contains (k, z))

/-- The host's device registers answer this address (R71, R96). The control registers of R52 come first. -/
def State.isDevice (s : State) (a : Word) : Bool :=
  (ctrlByte s.platform a).isNone && s.memMap.any fun r => r.kind == .device && r.meets a 1

/-- The memory map makes this access an address error (R77, R82): a region that holds one of its bytes refuses it. -/
def State.forbids (s : State) (k : AccessKind) (a : Word) (z : Size) : Bool :=
  s.memMap.any fun r => r.meets a z.bytes && r.refuses s.md k z

/-- The address is a multiple of the size (R79). -/
def aligned (a : Word) : Size → Bool
  | .byte => true
  | .word => a.extractLsb' 0 1 == 0#1
  | .long => a.extractLsb' 0 2 == 0#2

/-- The access raises no address error (R75 to R77). -/
def State.accessOk (s : State) (k : AccessKind) (a : Word) (z : Size) : Bool :=
  aligned a z && !s.forbids k a z

/-- The byte at an address: of a control register (R52) or of memory. What a device answers is no byte of memory but an
event (R96; `State.memRead`). -/
def State.readByte (s : State) (a : Word) : Byte :=
  match ctrlByte s.platform a with
  | some (r, k) => byteAt (r.get s) (r.place s.littleEndian k)
  | none => Memory.read s.mem a.toNat

/-- One byte written to a control register (R52) or to memory. -/
def State.writeByte (s : State) (a : Word) (b : Byte) : State :=
  match ctrlByte s.platform a with
  | some (r, k) => r.set (withByteAt (r.get s) (r.place s.littleEndian k) b) s
  | none => { s with mem := Memory.write s.mem a.toNat b }

/-- Bytes written at an address and the following ones. -/
def State.writeBytes (s : State) (a : Word) : List Byte → State
  | [] => s
  | b :: rest => (s.writeByte a b).writeBytes (a + 1#32) rest

/-- The longword of the four bytes stored at an address and the following ones (R73). -/
def wordOfBytes (littleEndian : Bool) (b0 b1 b2 b3 : Byte) : Word :=
  if littleEndian then b3 ++ b2 ++ b1 ++ b0 else b0 ++ b1 ++ b2 ++ b3

/-- The bytes of a datum in the order in which they stand in memory (R73, R76). -/
def bytesOf (littleEndian : Bool) (z : Size) (v : Word) : List Byte :=
  match z with
  | .byte => [byteAt v 0]
  | .word => if littleEndian then [byteAt v 0, byteAt v 1] else [byteAt v 1, byteAt v 0]
  | .long =>
    if littleEndian then [byteAt v 0, byteAt v 1, byteAt v 2, byteAt v 3]
    else [byteAt v 3, byteAt v 2, byteAt v 1, byteAt v 0]

/-- The unsigned value of the bytes that stand at an address (R73, R75). -/
def State.bytesRead (s : State) (a : Word) : Size → Word
  | .byte => (s.readByte a).setWidth 32
  | .word => (halfOfBytes s.littleEndian (s.readByte a) (s.readByte (a + 1#32))).setWidth 32
  | .long => wordOfBytes s.littleEndian (s.readByte a) (s.readByte (a + 1#32)) (s.readByte (a + 2#32))
      (s.readByte (a + 3#32))

/-- The value that the host supplies to the coming read of a device register (R96): the next of its answers, or, once
they are used up, a free value (log entries 17 and 34). -/
def State.answer (s : State) (z : Size) : Word := z.low (s.deviceIn.headD (Config.freeWord s.freeCount))

/-- What `MemRead` returns once its checks have passed (R75): the host's answer (R96) or the bytes. The address of the
first byte says which, as for a write (DESIGN CHOICE, log entry 17). -/
def State.memRead (s : State) (a : Word) (z : Size) : Word :=
  if s.isDevice a then s.answer z else s.bytesRead a z

/-- The state once `MemRead` has been done: a read of a device register is an event (R96), any other changes nothing. -/
def State.afterRead (s : State) (a : Word) (z : Size) : State :=
  if s.isDevice a then
    { s with
      deviceIn := s.deviceIn.tail
      deviceOut := s.deviceOut ++ [.read a z (s.answer z)]
      freeCount := if s.deviceIn.isEmpty then s.freeCount + 1 else s.freeCount }
  else s

/-- What `MemWrite` does once its checks have passed (R76): an event (R96) or bytes written. The address of the first
byte says which (DESIGN CHOICE, log entry 17). -/
def State.memWrite (s : State) (a : Word) (z : Size) (v : Word) : State :=
  if s.isDevice a then { s with deviceOut := s.deviceOut ++ [.write a z (z.low v)] }
  else s.writeBytes a (bytesOf s.littleEndian z v)

/-! ### The next instruction (10_state.md R41, R55; 44_branch.md R301, R302) -/

/-- The end of an instruction that does not branch: pc moves on, or the delay slot ends at the branch's target (R41,
R302). -/
def State.advance (s : State) : State :=
  { s with pc := s.pending.getD (s.pc + 2#32), pending := none }

/-- `delayed_branch(target)` (R301). -/
def State.delayedBranch (s : State) (target : Word) : State :=
  { s with pending := some target, pc := s.pc + 2#32 }

/-- A branch that takes effect at once (R306, R308). -/
def State.branch (s : State) (target : Word) : State := { s with pc := target }

/-! ### Reset (70_reset_and_hazards.md R480 to R484) -/

/-- The code a reset leaves in EXPEVT: `ExcCode` (60_exceptions.md R441, R8). -/
def ResetKind.code (p : Platform) : ResetKind → BitVec 12
  | .powerOn => p.powerOnCode
  | .manual => p.manualCode

/-- What every reset assigns (R480, R483): the byte order is the level of pin MD5, AT and STBY become 0. Nothing else
changes. -/
def State.resetWith (s : State) (kind : ResetKind) : State :=
  { s with
    sr := Sr.resetBits s.platform ||| (s.sr &&& Sr.userBits)
    vbr := 0#32
    expevt := kind.code s.platform
    mmucr := s.mmucr &&& ~~~(1#32 <<< s.platform.atBit.val)
    stbcr := s.stbcr &&& ~~~(1#8 <<< s.platform.stbyBit.val)
    littleEndian := s.md5
    pending := none
    mode := .running
    pc := 0xA0000000#32 }

/-- Eight free values, from the k-th on. -/
def freeBank (k : Nat) : Vector Word 8 := Vector.ofFn fun j => Config.freeWord (k + j.val)

/-- A free value in every register that a power-on reset leaves undefined (R481, R483, U6; log entries 7 and 34); the
reserved bits of SR and SSR, AT and STBY stay 0. -/
def State.scramble (s : State) : State :=
  let k := s.freeCount
  { s with
    gpr := { bank0 := freeBank k, bank1 := freeBank (k + 8), common := freeBank (k + 16) }
    sr := Sr.resetBits s.platform ||| (Config.freeWord (k + 24) &&& Sr.userBits)
    gbr := Config.freeWord (k + 25)
    ssr := Config.freeWord (k + 26) &&& Sr.writable
    spc := Config.freeWord (k + 27)
    mach := Config.freeWord (k + 28)
    macl := Config.freeWord (k + 29)
    pr := Config.freeWord (k + 30)
    tra := (Config.freeWord (k + 31)).setWidth 8
    intevt := Config.freeWord (k + 32)
    pteh := Config.freeWord (k + 33)
    ptel := Config.freeWord (k + 34)
    mmucr := Config.freeWord (k + 35) &&& ~~~(1#32 <<< s.platform.atBit.val)
    stbcr := (Config.freeWord (k + 36)).setWidth 8 &&& ~~~(1#8 <<< s.platform.stbyBit.val)
    freeCount := k + 37 }

/-- A manual reset: what R480 assigns and nothing else (R482). An exception with BL = 1 causes the same one (R451). -/
def State.manualReset (s : State) : State := s.resetWith .manual

/-- The reset that the host asserts (R480 to R482). -/
def State.resetBy (s : State) : ResetKind → State
  | .powerOn => (s.resetWith .powerOn).scramble
  | .manual => s.manualReset

/-! ### Taking an exception (60_exceptions.md R440 to R453) -/

/-- The general exceptions (R440, R442). -/
inductive Exc where
  /-- AddressError on a fetch, a read or a write. -/
  | addressError (k : AccessKind)
  /-- IllegalInstruction. -/
  | illegal
  /-- SlotIllegalInstruction. -/
  | slotIllegal
  /-- TRAPA with its immediate. -/
  | trapa (imm : BitVec 8)
  deriving DecidableEq, Repr

/-- The code for EXPEVT: TRAPA's is the manual's (R7), the others are `ExcCode` (R441, R8); a fetch has the read's (R77). -/
def Exc.code (p : Platform) : Exc → BitVec 12
  | .addressError .fetch | .addressError .read => p.readError.code
  | .addressError .write => p.writeError.code
  | .trapa _ => 0x160#12
  | .illegal => p.illegal.code
  | .slotIllegal => p.slotIllegal.code

/-- The offset from VBR: TRAPA's is the manual's (R7), the others are `VecOffset` (R441, R8). -/
def Exc.offset (p : Platform) : Exc → Word
  | .addressError .fetch => p.fetchOffset
  | .addressError .read => p.readError.offset
  | .addressError .write => p.writeError.offset
  | .trapa _ => 0x100#32
  | .illegal => p.illegal.offset
  | .slotIllegal => p.slotIllegal.offset

/-- The address SPC receives (R446): of the delayed branch when its slot instruction raised the exception. -/
def State.resumeAddress (s : State) : Exc → Word
  | .trapa _ => s.pc + 2#32
  | _ => if s.pending.isSome then s.pc - 2#32 else s.pc

/-- What every entry does (R445): save SR and the resume address, set MD, RB and BL, drop a pending branch, run, and go
to VBR plus the offset. -/
def State.enter (s : State) (resume offset : Word) : State :=
  { s with
    ssr := s.sr
    spc := resume
    sr := s.sr ||| Sr.entryBits
    pending := none
    mode := .running
    pc := s.vbr + offset }

/-- What TRA holds after an entry (R445): TRAPA's immediate, or what it held. -/
def State.traAfter (s : State) : Exc → BitVec 8
  | .trapa imm => imm
  | _ => s.tra

/-- Taking a general exception: the entry of R445, or the reset of R451 when BL = 1. -/
def State.raise (s : State) (e : Exc) : State :=
  if s.bl then s.manualReset
  else
    { s.enter (s.resumeAddress e) (e.offset s.platform) with expevt := e.code s.platform, tra := s.traAfter e }

/-- Taking an interrupt (R445, R446, R453): the code goes to `IntEvtRegister` (R8), by default INTEVT, so that EXPEVT
keeps its value. -/
def State.interrupt (s : State) (r : IntReq) : State :=
  s.platform.interruptRegister.set r.code (s.enter s.pc s.platform.interruptOffset)

/-- The return from an exception (45_system_control.md R368, R448): SR is restored before the delay slot runs. -/
def State.returnFromException (s : State) : State :=
  (s.setSr s.ssr).delayedBranch s.spc

/-! ### The frames of the meanings -/

/-- Undefined code, or an instruction that the mode may not run: IllegalInstruction, or SlotIllegalInstruction in a
delay slot (R331, R125). -/
def State.raiseIllegal (s : State) : State :=
  s.raise (if s.pending.isSome then .slotIllegal else .illegal)

/-- `require_privileged()` before the rest of an instruction (R331). -/
def privileged (s : State) (rest : Result) : Result :=
  if s.md then rest else .next s.raiseIllegal

/-- An instruction that is illegal in a delay slot (44_branch.md R303). -/
def outsideSlot (s : State) (rest : Result) : Result :=
  if s.pending.isSome then .next (s.raise .slotIllegal) else rest

/-- The check of one access (R75, R76) before the rest of an instruction. An instruction checks all its accesses before
it makes the first (R447, R18), so that one which raises has exchanged nothing with a device (log entry 17). -/
def checked (s : State) (k : AccessKind) (a : Word) (z : Size) (rest : Result) : Result :=
  if s.accessOk k a z then rest else .next (s.raise (.addressError k))

/-- `MemRead` (R75) and, unless it raises AddressError, the rest of the instruction: the value, and the state once the
read has been done. -/
def withRead (s : State) (a : Word) (z : Size) (rest : Word → State → Result) : Result :=
  checked s .read a z (rest (s.memRead a z) (s.afterRead a z))

/-- `MemWrite` (R76) and, unless it raises AddressError, the rest of the instruction. -/
def withWrite (s : State) (a : Word) (z : Size) (v : Word) (rest : State → Result) : Result :=
  checked s .write a z (rest (s.memWrite a z v))

/-- A result in a register and nothing else. -/
def putReg (n : RegNum) (v : Word) (s : State) : Result := .next (s.setReg n v).advance

/-- A result in a register and a new T. -/
def putRegT (n : RegNum) (v : Word) (t : Bool) (s : State) : Result := .next ((s.setReg n v).setT t).advance

/-- A new T and nothing else. -/
def putT (t : Bool) (s : State) : Result := .next (s.setT t).advance

end Sys2Proof.Machine
end

