-- ==== Sys2Proof/Machine/Boundary.lean ====
section
/-! DEFINITION. What happens at an instruction boundary before an instruction runs: the host's input, the acceptance of
an interrupt, and the fetch (00_scope.md R17, R18; 60_exceptions.md R450; 20_memory.md R77). -/

namespace Sys2Proof.Machine

/-- The host presents nothing. -/
def HostInput.none : HostInput :=
  { reset := Option.none, md5 := Option.none, request := Option.none, answers := [] }

/-- The input at this boundary (R17). -/
def State.input (s : State) : HostInput := s.inputs.headD HostInput.none

/-- The state once the input has been taken. -/
def State.afterInput (s : State) : State :=
  { s with md5 := s.input.md5.getD s.md5, deviceIn := s.deviceIn ++ s.input.answers, inputs := s.inputs.tail }

/-- The request is above the mask (R450). -/
def State.aboveMask (s : State) (r : IntReq) : Bool := decide ((Sr.imask s.sr).toNat < r.level.val)

/-- The request is accepted (R450, R452, R470): BL holds it off while the processor runs, not in a power-down state. -/
def State.accepts (s : State) (r : IntReq) : Bool :=
  s.pending.isNone && s.aboveMask r &&
    match s.mode with
    | .running => !s.bl
    | .sleeping | .standby => true

/-- The instruction word at pc, unless fetching it is an address error (R77, R110). -/
def State.fetch (s : State) : Option Half :=
  if s.accessOk .fetch s.pc .word then
    some (halfOfBytes s.littleEndian (s.readByte s.pc) (s.readByte (s.pc + 1#32)))
  else none

/-- The state with an instruction word stored at pc in the machine's byte order. -/
def State.storeCode (s : State) (w : Half) : State :=
  let (b0, b1) := bytesOfHalf s.littleEndian w
  { s with mem := Memory.write (Memory.write s.mem s.pc.toNat b0) (s.pc + 1#32).toNat b1 }

end Sys2Proof.Machine
end

