-- ==== Sys2Proof/Machine/Flags.lean ====
section
/-! DEFINITION. Every flag computation, on values alone: carries, borrows, overflows, comparisons, the division step
(41_arithmetic.md). Where the manual speaks of exact integers the computation is on Int or Nat and is compared with
what 32 bits can hold. -/

namespace Sys2Proof.Machine

/-- The carry of `a + b + t` out of bit 31 (R213). -/
def addCarries (a b : Word) (t : Bool) : Bool := decide (2 ^ 32 ≤ a.toNat + b.toNat + t.toNat)

/-- The borrow of `a - b - t` (R242, R244). -/
def subBorrows (a b : Word) (t : Bool) : Bool := decide (a.toNat < b.toNat + t.toNat)

/-- A signed integer is outside what 32 bits hold. -/
def outOfRange (x : Int) : Bool := decide (2 ^ 31 - 1 < x) || decide (x < -2 ^ 31)

/-- Signed overflow of `a + b` (R214). -/
def addOverflows (a b : Word) : Bool := outOfRange (a.toInt + b.toInt)

/-- Signed overflow of `a - b` (R245). -/
def subOverflows (a b : Word) : Bool := outOfRange (a.toInt - b.toInt)

/-- Unsigned `a >= b` (R217). -/
def unsignedGe (a b : Word) : Bool := decide (b.toNat ≤ a.toNat)

/-- Unsigned `a > b` (R219). -/
def unsignedGt (a b : Word) : Bool := decide (b.toNat < a.toNat)

/-- Signed `a >= b` (R218, R221). -/
def signedGe (a b : Word) : Bool := decide (b.toInt ≤ a.toInt)

/-- Signed `a > b` (R220, R222). -/
def signedGt (a b : Word) : Bool := decide (b.toInt < a.toInt)

/-- The value is 0: the condition of TST, DT and TAS.B (R230, R268 to R271). -/
def isZero (a : Word) : Bool := decide (a = 0#32)

/-- Some byte of `a` equals the byte of `b` in the same position (R223). -/
def someByteEqual (a b : Word) : Bool :=
  let x := a ^^^ b
  x.extractLsb' 24 8 == 0#8 || x.extractLsb' 16 8 == 0#8 || x.extractLsb' 8 8 == 0#8 || x.extractLsb' 0 8 == 0#8

/-- The most significant bit. -/
def msb (a : Word) : Bool := a.getLsbD 31

/-- The least significant bit. -/
def lsb (a : Word) : Bool := a.getLsbD 0

/-- DIV1's dividend after the shift: T enters at bit 0 (R224). -/
def div1Shifted (a : Word) (t : Bool) : Word := (a <<< 1) ||| ofFlag t

/-- DIV1's partial remainder: a subtraction when the old Q equals M, else an addition (R224). -/
def div1Result (a b : Word) (q m : Bool) : Word := if q = m then a - b else a + b

/-- DIV1's borrow or carry (R224). -/
def div1Carry (a b : Word) (q m : Bool) : Bool :=
  if q = m then decide (a.toNat < (a - b).toNat) else decide ((a + b).toNat < a.toNat)

/-- DIV1's new Q, from the bit shifted out, the borrow or carry, and M (R224). -/
def div1Q (top carry m : Bool) : Bool := (top ^^ carry) ^^ m

end Sys2Proof.Machine
end

