-- ==== Sys2Proof/Machine/Operands.lean ====
section
/-! DEFINITION. Every operand form: immediates, displacements, effective addresses and branch targets
(30_encoding.md R113 to R115, 44_branch.md R305). -/

namespace Sys2Proof.Machine

/-- `sext_8` (R12, R113). -/
def sext8 (v : BitVec 8) : Word := v.signExtend 32

/-- `zext_8` (R12, R113). -/
def zext8 (v : BitVec 8) : Word := v.setWidth 32

/-- The low byte of a longword, sign-extended (R12, R78). -/
def sextByte (v : Word) : Word := sext8 (v.extractLsb' 0 8)

/-- The low word of a longword, sign-extended (R12, R78). -/
def sextWord (v : Word) : Word := (v.extractLsb' 0 16).signExtend 32

/-- What a load of a size puts into a register: bytes and words are sign-extended (R78). -/
def Size.extend (z : Size) (v : Word) : Word :=
  match z with
  | .byte => sextByte v
  | .word => sextWord v
  | .long => v

/-- A base address plus a zero-extended displacement scaled by the operand size (R114, R115). -/
def dispAddr {w : Nat} (base : Word) (disp : BitVec w) (z : Size) : Word :=
  base + disp.setWidth 32 * z.step

/-- `@(disp,Rn)` (R115). -/
def State.dispReg (s : State) (n : RegNum) (disp : BitVec 4) (z : Size) : Word := dispAddr (s.reg n) disp z

/-- `@(disp,GBR)` (R115). -/
def State.dispGbr (s : State) (disp : BitVec 8) (z : Size) : Word := dispAddr s.gbr disp z

/-- `@(R0,Rn)` (R115). -/
def State.indexed (s : State) (n : RegNum) : Word := s.reg n + s.reg 0#4

/-- `@(R0,GBR)` (R115). -/
def State.indexedGbr (s : State) : Word := s.gbr + s.reg 0#4

/-- `@-Rn`: the decremented address (R115, R81). -/
def State.preDec (s : State) (n : RegNum) (z : Size) : Word := s.reg n - z.step

/-- `@Rn+`: the incremented address (R115, R81). -/
def State.postInc (s : State) (n : RegNum) (z : Size) : Word := s.reg n + z.step

/-- PC as an operand (R42): in a delay slot it is the branch's target plus 2. -/
def State.pcOp (s : State) : Word :=
  match s.pending with
  | none => s.pc + 4#32
  | some target => target + 2#32

/-- `@(disp,PC)` of a word (R115). -/
def State.pcWord (s : State) (disp : BitVec 8) : Word := dispAddr s.pcOp disp .word

/-- `@(disp,PC)` of a longword: the lowest two bits of PC are masked (R115). -/
def State.pcLong (s : State) (disp : BitVec 8) : Word := dispAddr (s.pcOp &&& 0xFFFFFFFC#32) disp .long

/-- A PC-relative branch's target: a sign-extended displacement, doubled (R114, R305). -/
def State.relTarget {w : Nat} (s : State) (disp : BitVec w) : Word := s.pc + 4#32 + disp.signExtend 32 * 2#32

/-- The target of BRAF and BSRF (R305). -/
def State.farTarget (s : State) (n : RegNum) : Word := s.pc + 4#32 + s.reg n

/-- The return address of BSR, BSRF and JSR (R305). -/
def State.returnAddress (s : State) : Word := s.pc + 4#32

end Sys2Proof.Machine
end

