-- ==== Sys2Proof/Machine/Arithmetic.lean ====
section
/-! DEFINITION. The arithmetic instructions (41_arithmetic.md R210 to R245). None of them traps on the values of its
operands. -/

namespace Sys2Proof.Machine

/-! ### Shared shapes -/

/-- The exact signed product, as 64 bits (R228, R236). -/
def mulSigned (a b : Word) : BitVec 64 := BitVec.ofInt 64 (a.toInt * b.toInt)

/-- The exact unsigned product, as 64 bits (R229). -/
def mulUnsigned (a b : Word) : BitVec 64 := BitVec.ofNat 64 (a.toNat * b.toNat)

/-- The exact integer limited to a range (R236). -/
def clamp (lo hi x : Int) : Int := min (max x lo) hi

/-- The accumulator after MAC.L (R236): 64 bits that wrap, or with S = 1 a signed 48-bit accumulator that saturates
(C17, D28; log entry 24). -/
def macLong (mac : BitVec 64) (sat : Bool) (vn vm : Word) : BitVec 64 :=
  let p := vn.toInt * vm.toInt
  if sat then BitVec.ofInt 64 (clamp (-2 ^ 47) (2 ^ 47 - 1) ((mac.extractLsb' 0 48).toInt + p))
  else mac + BitVec.ofInt 64 p

/-- The exact product of the low words of two values, signed (R237, R239). -/
def mulWords (a b : Word) : Int := (a.extractLsb' 0 16).toInt * (b.extractLsb' 0 16).toInt

/-- The accumulator after MAC.W (R237): 64 bits that wrap (D14; log entry 23), or with S = 1 a saturating MACL whose
overflow sets bit 0 of MACH. -/
def macWord (mac : BitVec 64) (sat : Bool) (vn vm : Word) : BitVec 64 :=
  let p := mulWords vn vm
  let hi : Word := mac.extractLsb' 32 32
  let r := (mac.extractLsb' 0 32).toInt + p
  if sat then
    if 2 ^ 31 - 1 < r then (hi ||| 1#32) ++ (0x7FFFFFFF#32)
    else if r < -2 ^ 31 then (hi ||| 1#32) ++ (0x80000000#32)
    else hi ++ BitVec.ofInt 32 r
  else mac + BitVec.ofInt 64 p

/-- The address of a multiply-accumulate's second operand: after the first when both registers are one (R235). -/
def State.macSecond (s : State) (z : Size) (m n : RegNum) : Word :=
  if m = n then s.postInc n z else s.reg m

/-- The registers and the accumulator after a multiply-accumulate (R235). -/
def State.accumulate (s : State) (z : Size) (m n : RegNum) (acc : BitVec 64) : State :=
  (((s.setReg n (s.postInc n z)).setReg m (s.macSecond z m n + z.step)).setMac acc).advance

/-- Both operands of a multiply-accumulate: Rn's is read first, then Rm's, and both before any register is written
(R235, D2; log entry 11). Two reads of a device are two events (R96). -/
def multiplyAccumulate (z : Size) (f : BitVec 64 → Bool → Word → Word → BitVec 64) (m n : RegNum) (s : State) :
    Result :=
  let a := s.reg n
  let b := s.macSecond z m n
  checked s .read a z (checked s .read b z (
    let s' := s.afterRead a z
    .next ((s'.afterRead b z).accumulate z m n (f s.mac s.satS (s.memRead a z) (s'.memRead b z)))))

/-! ### Addition -/

/-- ADD Rm,Rn (R211). -/
def execAdd (m n : RegNum) (s : State) : Result := putReg n (s.reg n + s.reg m) s
/-- ADD #imm,Rn (R212). -/
def execAddImm (imm : BitVec 8) (n : RegNum) (s : State) : Result := putReg n (s.reg n + sext8 imm) s
/-- ADDC Rm,Rn (R213). -/
def execAddc (m n : RegNum) (s : State) : Result :=
  putRegT n (s.reg n + s.reg m + ofFlag s.t) (addCarries (s.reg n) (s.reg m) s.t) s
/-- ADDV Rm,Rn (R214). -/
def execAddv (m n : RegNum) (s : State) : Result :=
  putRegT n (s.reg n + s.reg m) (addOverflows (s.reg n) (s.reg m)) s

/-! ### Comparison -/

/-- CMP/EQ #imm,R0 (R215). -/
def execCmpEqImm (imm : BitVec 8) (s : State) : Result := putT (decide (s.reg 0#4 = sext8 imm)) s
/-- CMP/EQ Rm,Rn (R216). -/
def execCmpEq (m n : RegNum) (s : State) : Result := putT (decide (s.reg n = s.reg m)) s
/-- CMP/HS Rm,Rn (R217). -/
def execCmpHs (m n : RegNum) (s : State) : Result := putT (unsignedGe (s.reg n) (s.reg m)) s
/-- CMP/GE Rm,Rn (R218). -/
def execCmpGe (m n : RegNum) (s : State) : Result := putT (signedGe (s.reg n) (s.reg m)) s
/-- CMP/HI Rm,Rn (R219). -/
def execCmpHi (m n : RegNum) (s : State) : Result := putT (unsignedGt (s.reg n) (s.reg m)) s
/-- CMP/GT Rm,Rn (R220). -/
def execCmpGt (m n : RegNum) (s : State) : Result := putT (signedGt (s.reg n) (s.reg m)) s
/-- CMP/PZ Rn (R221). -/
def execCmpPz (n : RegNum) (s : State) : Result := putT (signedGe (s.reg n) 0#32) s
/-- CMP/PL Rn (R222). -/
def execCmpPl (n : RegNum) (s : State) : Result := putT (signedGt (s.reg n) 0#32) s
/-- CMP/STR Rm,Rn (R223). -/
def execCmpStr (m n : RegNum) (s : State) : Result := putT (someByteEqual (s.reg n) (s.reg m)) s

/-! ### Division steps -/

/-- DIV1 Rm,Rn (R224). With n = m the divisor is the shifted value. -/
def execDiv1 (m n : RegNum) (s : State) : Result :=
  let a := div1Shifted (s.reg n) s.t
  let b := if m = n then a else s.reg m
  let q := div1Q (msb (s.reg n)) (div1Carry a b s.q s.m) s.m
  .next (((s.setReg n (div1Result a b s.q s.m)).setQ q).setT (q == s.m)).advance
/-- DIV0S Rm,Rn (R225). -/
def execDiv0s (m n : RegNum) (s : State) : Result :=
  .next (((s.setQ (msb (s.reg n))).setM (msb (s.reg m))).setT (msb (s.reg m) ^^ msb (s.reg n))).advance
/-- DIV0U (R226). -/
def execDiv0u (s : State) : Result := .next (((s.setQ false).setM false).setT false).advance

/-! ### Multiplication -/

/-- DMULS.L Rm,Rn (R228). -/
def execDmulsL (m n : RegNum) (s : State) : Result := .next (s.setMac (mulSigned (s.reg n) (s.reg m))).advance
/-- DMULU.L Rm,Rn (R229, C2). -/
def execDmuluL (m n : RegNum) (s : State) : Result := .next (s.setMac (mulUnsigned (s.reg n) (s.reg m))).advance
/-- MUL.L Rm,Rn (R238): MACH keeps its value. -/
def execMulL (m n : RegNum) (s : State) : Result := .next (s.setMacl (s.reg n * s.reg m)).advance
/-- MULS.W Rm,Rn (R239): MACH keeps its value. -/
def execMulsW (m n : RegNum) (s : State) : Result :=
  .next (s.setMacl (BitVec.ofInt 32 (mulWords (s.reg n) (s.reg m)))).advance
/-- MULU.W Rm,Rn (R240): MACH keeps its value. -/
def execMuluW (m n : RegNum) (s : State) : Result :=
  .next (s.setMacl ((s.reg n &&& 0xFFFF#32) * (s.reg m &&& 0xFFFF#32))).advance
/-- MAC.L @Rm+,@Rn+ (R236). -/
def execMacL (m n : RegNum) (s : State) : Result := multiplyAccumulate .long macLong m n s
/-- MAC.W @Rm+,@Rn+ (R237). -/
def execMacW (m n : RegNum) (s : State) : Result := multiplyAccumulate .word macWord m n s

/-! ### Decrement, extension, negation, subtraction -/

/-- DT Rn (R230). -/
def execDt (n : RegNum) (s : State) : Result := putRegT n (s.reg n - 1#32) (isZero (s.reg n - 1#32)) s
/-- EXTS.B Rm,Rn (R231). -/
def execExtsB (m n : RegNum) (s : State) : Result := putReg n (sextByte (s.reg m)) s
/-- EXTS.W Rm,Rn (R232). -/
def execExtsW (m n : RegNum) (s : State) : Result := putReg n (sextWord (s.reg m)) s
/-- EXTU.B Rm,Rn (R233). -/
def execExtuB (m n : RegNum) (s : State) : Result := putReg n (s.reg m &&& 0xFF#32) s
/-- EXTU.W Rm,Rn (R234). -/
def execExtuW (m n : RegNum) (s : State) : Result := putReg n (s.reg m &&& 0xFFFF#32) s
/-- NEG Rm,Rn (R241). -/
def execNeg (m n : RegNum) (s : State) : Result := putReg n (0#32 - s.reg m) s
/-- NEGC Rm,Rn (R242). -/
def execNegc (m n : RegNum) (s : State) : Result :=
  putRegT n (0#32 - s.reg m - ofFlag s.t) (subBorrows 0#32 (s.reg m) s.t) s
/-- SUB Rm,Rn (R243). -/
def execSub (m n : RegNum) (s : State) : Result := putReg n (s.reg n - s.reg m) s
/-- SUBC Rm,Rn (R244). -/
def execSubc (m n : RegNum) (s : State) : Result :=
  putRegT n (s.reg n - s.reg m - ofFlag s.t) (subBorrows (s.reg n) (s.reg m) s.t) s
/-- SUBV Rm,Rn (R245). -/
def execSubv (m n : RegNum) (s : State) : Result :=
  putRegT n (s.reg n - s.reg m) (subOverflows (s.reg n) (s.reg m)) s

end Sys2Proof.Machine
end

