-- ==== Sys2Proof/Machine/Branch.lean ====
section
/-! DEFINITION. The branch instructions (44_branch.md R300 to R316). All eleven are illegal in a delay slot (R303). -/

namespace Sys2Proof.Machine

/-- A conditional branch without a delay slot (R306, R308). -/
def branchIf (c : Bool) (disp : BitVec 8) (s : State) : Result :=
  outsideSlot s (.next (if c then s.branch (s.relTarget disp) else s.advance))

/-- A conditional branch with a delay slot when it is taken (R307, R309). -/
def delayedBranchIf (c : Bool) (disp : BitVec 8) (s : State) : Result :=
  outsideSlot s (.next (if c then s.delayedBranch (s.relTarget disp) else s.advance))

/-- A delayed branch (R310, R311, R314, R316). -/
def jump (target : Word) (s : State) : Result := outsideSlot s (.next (s.delayedBranch target))

/-- A subroutine call: PR receives the return address (R312, R313, R315). -/
def call (target : Word) (s : State) : Result :=
  outsideSlot s (.next ((s.setPr s.returnAddress).delayedBranch target))

/-- BF label (R306). -/
def execBf (disp : BitVec 8) (s : State) : Result := branchIf (!s.t) disp s
/-- BF/S label (R307). -/
def execBfS (disp : BitVec 8) (s : State) : Result := delayedBranchIf (!s.t) disp s
/-- BT label (R308). -/
def execBt (disp : BitVec 8) (s : State) : Result := branchIf s.t disp s
/-- BT/S label (R309). -/
def execBtS (disp : BitVec 8) (s : State) : Result := delayedBranchIf s.t disp s
/-- BRA label (R310). -/
def execBra (disp : BitVec 12) (s : State) : Result := jump (s.relTarget disp) s
/-- BRAF Rn (R311). -/
def execBraf (n : RegNum) (s : State) : Result := jump (s.farTarget n) s
/-- BSR label (R312). -/
def execBsr (disp : BitVec 12) (s : State) : Result := call (s.relTarget disp) s
/-- BSRF Rn (R313). -/
def execBsrf (n : RegNum) (s : State) : Result := call (s.farTarget n) s
/-- JMP @Rn (R314). -/
def execJmp (n : RegNum) (s : State) : Result := jump (s.reg n) s
/-- JSR @Rn (R315). -/
def execJsr (n : RegNum) (s : State) : Result := call (s.reg n) s
/-- RTS (R316). -/
def execRts (s : State) : Result := jump s.pr s

end Sys2Proof.Machine
end

