-- ==== Sys2Proof/Machine/DataTransfer.lean ====
section
/-! DEFINITION. The data transfer instructions (40_data_transfer.md R150 to R196). None changes a bit of SR. -/

namespace Sys2Proof.Machine

/-! ### Shared shapes (R152) -/

/-- A load: the datum, extended, goes to a register (R152, R78). -/
def load (z : Size) (a : Word) (n : RegNum) (s : State) : Result :=
  withRead s a z fun v s' => putReg n (z.extend v) s'

/-- A store of a register's low bits (R152). -/
def store (z : Size) (a : Word) (m : RegNum) (s : State) : Result :=
  withWrite s a z (s.reg m) fun s' => .next s'.advance

/-- A store with pre-decrement: the old value of the source is stored, then the address is written back (R81). -/
def storePreDec (z : Size) (m n : RegNum) (s : State) : Result :=
  withWrite s (s.preDec n z) z (s.reg m) fun s' => .next (s'.setReg n (s.preDec n z)).advance

/-- A load with post-increment: when both registers are the same the loaded value stays (R81). -/
def loadPostInc (z : Size) (m n : RegNum) (s : State) : Result :=
  withRead s (s.reg m) z fun v s' => .next ((s'.setReg m (s.postInc m z)).setReg n (z.extend v)).advance

/-! ### Registers and immediates -/

/-- MOV #imm,Rn (R155). -/
def execMovImm (imm : BitVec 8) (n : RegNum) (s : State) : Result := putReg n (sext8 imm) s
/-- MOV Rm,Rn (R154). -/
def execMov (m n : RegNum) (s : State) : Result := putReg n (s.reg m) s
/-- MOVA @(disp,PC),R0 (R188): no access to memory. -/
def execMova (disp : BitVec 8) (s : State) : Result := putReg 0#4 (s.pcLong disp) s
/-- MOVT Rn (R189). -/
def execMovt (n : RegNum) (s : State) : Result := putReg n (ofFlag s.t) s
/-- PREF @Rn (R196): no effect and no exception. -/
def execPref (_n : RegNum) (s : State) : Result := .next s.advance
/-- SWAP.B Rm,Rn (R190). -/
def execSwapB (m n : RegNum) (s : State) : Result :=
  let v := s.reg m
  putReg n ((v &&& 0xFFFF0000#32) ||| ((v &&& 0xFF#32) <<< 8) ||| ((v &&& 0xFF00#32) >>> 8)) s
/-- SWAP.W Rm,Rn (R191). -/
def execSwapW (m n : RegNum) (s : State) : Result :=
  let v := s.reg m
  putReg n ((v <<< 16) ||| ((v >>> 16) &&& 0xFFFF#32)) s
/-- XTRCT Rm,Rn (R192). -/
def execXtrct (m n : RegNum) (s : State) : Result :=
  putReg n (((s.reg m <<< 16) &&& 0xFFFF0000#32) ||| ((s.reg n >>> 16) &&& 0xFFFF#32)) s

/-! ### PC-relative loads -/

/-- MOV.W @(disp,PC),Rn (R156). -/
def execMovWLoadPc (disp : BitVec 8) (n : RegNum) (s : State) : Result := load .word (s.pcWord disp) n s
/-- MOV.L @(disp,PC),Rn (R157). -/
def execMovLLoadPc (disp : BitVec 8) (n : RegNum) (s : State) : Result := load .long (s.pcLong disp) n s

/-! ### Register indirect -/

/-- MOV.B Rm,@Rn (R158). -/
def execMovBStore (m n : RegNum) (s : State) : Result := store .byte (s.reg n) m s
/-- MOV.W Rm,@Rn (R159). -/
def execMovWStore (m n : RegNum) (s : State) : Result := store .word (s.reg n) m s
/-- MOV.L Rm,@Rn (R160). -/
def execMovLStore (m n : RegNum) (s : State) : Result := store .long (s.reg n) m s
/-- MOV.B @Rm,Rn (R161). -/
def execMovBLoad (m n : RegNum) (s : State) : Result := load .byte (s.reg m) n s
/-- MOV.W @Rm,Rn (R162). -/
def execMovWLoad (m n : RegNum) (s : State) : Result := load .word (s.reg m) n s
/-- MOV.L @Rm,Rn (R163). -/
def execMovLLoad (m n : RegNum) (s : State) : Result := load .long (s.reg m) n s

/-! ### Pre-decrement and post-increment -/

/-- MOV.B Rm,@-Rn (R164). -/
def execMovBPreDec (m n : RegNum) (s : State) : Result := storePreDec .byte m n s
/-- MOV.W Rm,@-Rn (R165). -/
def execMovWPreDec (m n : RegNum) (s : State) : Result := storePreDec .word m n s
/-- MOV.L Rm,@-Rn (R166). -/
def execMovLPreDec (m n : RegNum) (s : State) : Result := storePreDec .long m n s
/-- MOV.B @Rm+,Rn (R167). -/
def execMovBPostInc (m n : RegNum) (s : State) : Result := loadPostInc .byte m n s
/-- MOV.W @Rm+,Rn (R168). -/
def execMovWPostInc (m n : RegNum) (s : State) : Result := loadPostInc .word m n s
/-- MOV.L @Rm+,Rn (R169). -/
def execMovLPostInc (m n : RegNum) (s : State) : Result := loadPostInc .long m n s

/-! ### 4-bit displacement -/

/-- MOV.B R0,@(disp,Rn) (R170). -/
def execMovBStoreDisp (disp : BitVec 4) (n : RegNum) (s : State) : Result := store .byte (s.dispReg n disp .byte) 0#4 s
/-- MOV.W R0,@(disp,Rn) (R171). -/
def execMovWStoreDisp (disp : BitVec 4) (n : RegNum) (s : State) : Result := store .word (s.dispReg n disp .word) 0#4 s
/-- MOV.L Rm,@(disp,Rn) (R172). -/
def execMovLStoreDisp (m : RegNum) (disp : BitVec 4) (n : RegNum) (s : State) : Result :=
  store .long (s.dispReg n disp .long) m s
/-- MOV.B @(disp,Rm),R0 (R173). -/
def execMovBLoadDisp (disp : BitVec 4) (m : RegNum) (s : State) : Result := load .byte (s.dispReg m disp .byte) 0#4 s
/-- MOV.W @(disp,Rm),R0 (R174). -/
def execMovWLoadDisp (disp : BitVec 4) (m : RegNum) (s : State) : Result := load .word (s.dispReg m disp .word) 0#4 s
/-- MOV.L @(disp,Rm),Rn (R175). -/
def execMovLLoadDisp (disp : BitVec 4) (m n : RegNum) (s : State) : Result := load .long (s.dispReg m disp .long) n s

/-! ### Indexed by R0 -/

/-- MOV.B Rm,@(R0,Rn) (R176). -/
def execMovBStoreIdx (m n : RegNum) (s : State) : Result := store .byte (s.indexed n) m s
/-- MOV.W Rm,@(R0,Rn) (R177). -/
def execMovWStoreIdx (m n : RegNum) (s : State) : Result := store .word (s.indexed n) m s
/-- MOV.L Rm,@(R0,Rn) (R178). -/
def execMovLStoreIdx (m n : RegNum) (s : State) : Result := store .long (s.indexed n) m s
/-- MOV.B @(R0,Rm),Rn (R179). -/
def execMovBLoadIdx (m n : RegNum) (s : State) : Result := load .byte (s.indexed m) n s
/-- MOV.W @(R0,Rm),Rn (R180). -/
def execMovWLoadIdx (m n : RegNum) (s : State) : Result := load .word (s.indexed m) n s
/-- MOV.L @(R0,Rm),Rn (R181). -/
def execMovLLoadIdx (m n : RegNum) (s : State) : Result := load .long (s.indexed m) n s

/-! ### Relative to GBR -/

/-- MOV.B R0,@(disp,GBR) (R182). -/
def execMovBStoreGbr (disp : BitVec 8) (s : State) : Result := store .byte (s.dispGbr disp .byte) 0#4 s
/-- MOV.W R0,@(disp,GBR) (R183). -/
def execMovWStoreGbr (disp : BitVec 8) (s : State) : Result := store .word (s.dispGbr disp .word) 0#4 s
/-- MOV.L R0,@(disp,GBR) (R184). -/
def execMovLStoreGbr (disp : BitVec 8) (s : State) : Result := store .long (s.dispGbr disp .long) 0#4 s
/-- MOV.B @(disp,GBR),R0 (R185). -/
def execMovBLoadGbr (disp : BitVec 8) (s : State) : Result := load .byte (s.dispGbr disp .byte) 0#4 s
/-- MOV.W @(disp,GBR),R0 (R186). -/
def execMovWLoadGbr (disp : BitVec 8) (s : State) : Result := load .word (s.dispGbr disp .word) 0#4 s
/-- MOV.L @(disp,GBR),R0 (R187). -/
def execMovLLoadGbr (disp : BitVec 8) (s : State) : Result := load .long (s.dispGbr disp .long) 0#4 s

end Sys2Proof.Machine
end

