-- ==== Sys2Proof/Machine/Logic.lean ====
section
/-! DEFINITION. The logic instructions (42_logic.md R260 to R274). Immediates are zero-extended; the memory forms
work on the byte at GBR + R0. -/

namespace Sys2Proof.Machine

/-- A read-modify-write of one byte (R81, R260): a refused read or write leaves everything unchanged. -/
def modifyByte (a : Word) (f : Word → Word) (after : Word → State → State) (s : State) : Result :=
  let v := s.memRead a .byte
  checked s .read a .byte (checked s .write a .byte (
    .next (after v ((s.afterRead a .byte).memWrite a .byte (f v))).advance))

/-- AND Rm,Rn (R261). -/
def execAnd (m n : RegNum) (s : State) : Result := putReg n (s.reg n &&& s.reg m) s
/-- AND #imm,R0 (R262). -/
def execAndImm (imm : BitVec 8) (s : State) : Result := putReg 0#4 (s.reg 0#4 &&& zext8 imm) s
/-- AND.B #imm,@(R0,GBR) (R263). -/
def execAndB (imm : BitVec 8) (s : State) : Result :=
  modifyByte s.indexedGbr (fun v => v &&& zext8 imm) (fun _ s' => s') s
/-- NOT Rm,Rn (R264). -/
def execNot (m n : RegNum) (s : State) : Result := putReg n (~~~(s.reg m)) s
/-- OR Rm,Rn (R265). -/
def execOr (m n : RegNum) (s : State) : Result := putReg n (s.reg n ||| s.reg m) s
/-- OR #imm,R0 (R266). -/
def execOrImm (imm : BitVec 8) (s : State) : Result := putReg 0#4 (s.reg 0#4 ||| zext8 imm) s
/-- OR.B #imm,@(R0,GBR) (R267). -/
def execOrB (imm : BitVec 8) (s : State) : Result :=
  modifyByte s.indexedGbr (fun v => v ||| zext8 imm) (fun _ s' => s') s
/-- TAS.B @Rn (R268): T tells whether the byte was 0, and the byte's bit 7 is set in the same step (R92). -/
def execTasB (n : RegNum) (s : State) : Result :=
  modifyByte (s.reg n) (fun v => v ||| 0x80#32) (fun v s' => s'.setT (isZero v)) s
/-- TST Rm,Rn (R269). -/
def execTst (m n : RegNum) (s : State) : Result := putT (isZero (s.reg n &&& s.reg m)) s
/-- TST #imm,R0 (R270). -/
def execTstImm (imm : BitVec 8) (s : State) : Result := putT (isZero (s.reg 0#4 &&& zext8 imm)) s
/-- TST.B #imm,@(R0,GBR) (R271): a read only. -/
def execTstB (imm : BitVec 8) (s : State) : Result :=
  withRead s s.indexedGbr .byte fun v s' => putT (isZero (v &&& zext8 imm)) s'
/-- XOR Rm,Rn (R272). -/
def execXor (m n : RegNum) (s : State) : Result := putReg n (s.reg n ^^^ s.reg m) s
/-- XOR #imm,R0 (R273). -/
def execXorImm (imm : BitVec 8) (s : State) : Result := putReg 0#4 (s.reg 0#4 ^^^ zext8 imm) s
/-- XOR.B #imm,@(R0,GBR) (R274). -/
def execXorB (imm : BitVec 8) (s : State) : Result :=
  modifyByte s.indexedGbr (fun v => v ^^^ zext8 imm) (fun _ s' => s') s

end Sys2Proof.Machine
end

