-- ==== Sys2Proof/Machine/Shift.lean ====
section
/-! DEFINITION. The shift instructions (43_shift.md R280 to R296). -/

namespace Sys2Proof.Machine

/-- The count field of a dynamic shift: bits 4 to 0 of Rm (R285). -/
def shiftCount (rm : Word) : Nat := (rm.extractLsb' 0 5).toNat

/-- SHAD's result: left for Rm >= 0, else arithmetically right by 32 minus the count field, which is 1 to 32 (R285;
C5, log entry 25). -/
def shadResult (rn rm : Word) : Word :=
  if msb rm then rn.sshiftRight (32 - shiftCount rm) else rn <<< shiftCount rm

/-- SHLD's result: as SHAD's, with zeros entering on the right shift (R288; C4, log entry 25). -/
def shldResult (rn rm : Word) : Word :=
  if msb rm then rn >>> (32 - shiftCount rm) else rn <<< shiftCount rm

/-- ROTL Rn (R281). -/
def execRotl (n : RegNum) (s : State) : Result :=
  putRegT n ((s.reg n <<< 1) ||| ofFlag (msb (s.reg n))) (msb (s.reg n)) s
/-- ROTR Rn (R282). -/
def execRotr (n : RegNum) (s : State) : Result :=
  putRegT n ((s.reg n >>> 1) ||| (ofFlag (lsb (s.reg n)) <<< 31)) (lsb (s.reg n)) s
/-- ROTCL Rn (R283): through T. -/
def execRotcl (n : RegNum) (s : State) : Result :=
  putRegT n ((s.reg n <<< 1) ||| ofFlag s.t) (msb (s.reg n)) s
/-- ROTCR Rn (R284): through T. -/
def execRotcr (n : RegNum) (s : State) : Result :=
  putRegT n ((s.reg n >>> 1) ||| (ofFlag s.t <<< 31)) (lsb (s.reg n)) s
/-- SHAD Rm,Rn (R285). -/
def execShad (m n : RegNum) (s : State) : Result := putReg n (shadResult (s.reg n) (s.reg m)) s
/-- SHAL Rn (R286). -/
def execShal (n : RegNum) (s : State) : Result := putRegT n (s.reg n <<< 1) (msb (s.reg n)) s
/-- SHAR Rn (R287). -/
def execShar (n : RegNum) (s : State) : Result := putRegT n ((s.reg n).sshiftRight 1) (lsb (s.reg n)) s
/-- SHLD Rm,Rn (R288). -/
def execShld (m n : RegNum) (s : State) : Result := putReg n (shldResult (s.reg n) (s.reg m)) s
/-- SHLL Rn (R289). -/
def execShll (n : RegNum) (s : State) : Result := putRegT n (s.reg n <<< 1) (msb (s.reg n)) s
/-- SHLR Rn (R290). -/
def execShlr (n : RegNum) (s : State) : Result := putRegT n (s.reg n >>> 1) (lsb (s.reg n)) s
/-- SHLL2 Rn (R291). -/
def execShll2 (n : RegNum) (s : State) : Result := putReg n (s.reg n <<< 2) s
/-- SHLR2 Rn (R292). -/
def execShlr2 (n : RegNum) (s : State) : Result := putReg n (s.reg n >>> 2) s
/-- SHLL8 Rn (R293). -/
def execShll8 (n : RegNum) (s : State) : Result := putReg n (s.reg n <<< 8) s
/-- SHLR8 Rn (R294). -/
def execShlr8 (n : RegNum) (s : State) : Result := putReg n (s.reg n >>> 8) s
/-- SHLL16 Rn (R295). -/
def execShll16 (n : RegNum) (s : State) : Result := putReg n (s.reg n <<< 16) s
/-- SHLR16 Rn (R296). -/
def execShlr16 (n : RegNum) (s : State) : Result := putReg n (s.reg n >>> 16) s

end Sys2Proof.Machine
end

