-- ==== Sys2Proof/Machine/SystemControl.lean ====
section
/-! DEFINITION. The system control instructions (45_system_control.md R330 to R405). -/

namespace Sys2Proof.Machine

/-! ### Shared shapes -/

/-- LDC and LDS from a register: `put` writes the control or system register (R335 to R347, R361 to R363). -/
def loadControl (put : State → Word → State) (m : RegNum) (s : State) : Result := .next (put s (s.reg m)).advance

/-- LDC.L and LDS.L: the address register is incremented through the bank in force before `put` (R348 to R360, R364 to
R366; D29, log entry 27). -/
def loadControlMem (put : State → Word → State) (m : RegNum) (s : State) : Result :=
  withRead s (s.reg m) .long fun v s' => .next (put (s'.setReg m (s.postInc m .long)) v).advance

/-- STC and STS to a register (R373 to R385, R399 to R401). -/
def storeControl (v : Word) (n : RegNum) (s : State) : Result := .next (s.setReg n v).advance

/-- STC.L and STS.L: the address is written back once the store is done (R386 to R398, R402 to R404). -/
def storeControlMem (v : Word) (n : RegNum) (s : State) : Result :=
  withWrite s (s.preDec n .long) .long v fun s' => .next (s'.setReg n (s.preDec n .long)).advance

/-- LDC to SR: only the implemented bits (R335, R39). -/
def putSr (s : State) (v : Word) : State := s.setSr (v &&& Sr.writable)

/-- LDC to SSR: the same mask (R338, R43; D10, log entry 28). -/
def putSsr (s : State) (v : Word) : State := s.setSsr (v &&& Sr.writable)

/-! ### Flags and the accumulator -/

/-- CLRMAC (R332). -/
def execClrmac (s : State) : Result := .next (s.setMac 0#64).advance
/-- CLRS (R333). -/
def execClrs (s : State) : Result := .next (s.setS false).advance
/-- CLRT (R334). -/
def execClrt (s : State) : Result := .next (s.setT false).advance
/-- SETS (R369). -/
def execSets (s : State) : Result := .next (s.setS true).advance
/-- SETT (R371). -/
def execSett (s : State) : Result := .next (s.setT true).advance
/-- NOP (R367). -/
def execNop (s : State) : Result := .next s.advance

/-! ### LDC (R335 to R347) -/

/-- LDC Rm,SR (R335). -/
def execLdcSr (m : RegNum) (s : State) : Result := privileged s (loadControl putSr m s)
/-- LDC Rm,GBR (R336). -/
def execLdcGbr (m : RegNum) (s : State) : Result := loadControl State.setGbr m s
/-- LDC Rm,VBR (R337). -/
def execLdcVbr (m : RegNum) (s : State) : Result := privileged s (loadControl State.setVbr m s)
/-- LDC Rm,SSR (R338). -/
def execLdcSsr (m : RegNum) (s : State) : Result := privileged s (loadControl putSsr m s)
/-- LDC Rm,SPC (R339). -/
def execLdcSpc (m : RegNum) (s : State) : Result := privileged s (loadControl State.setSpc m s)
/-- LDC Rm,R0_BANK (R340). -/
def execLdcR0Bank (m : RegNum) (s : State) : Result := privileged s (loadControl (State.setOther · 0 ·) m s)
/-- LDC Rm,R1_BANK (R341). -/
def execLdcR1Bank (m : RegNum) (s : State) : Result := privileged s (loadControl (State.setOther · 1 ·) m s)
/-- LDC Rm,R2_BANK (R342). -/
def execLdcR2Bank (m : RegNum) (s : State) : Result := privileged s (loadControl (State.setOther · 2 ·) m s)
/-- LDC Rm,R3_BANK (R343). -/
def execLdcR3Bank (m : RegNum) (s : State) : Result := privileged s (loadControl (State.setOther · 3 ·) m s)
/-- LDC Rm,R4_BANK (R344). -/
def execLdcR4Bank (m : RegNum) (s : State) : Result := privileged s (loadControl (State.setOther · 4 ·) m s)
/-- LDC Rm,R5_BANK (R345). -/
def execLdcR5Bank (m : RegNum) (s : State) : Result := privileged s (loadControl (State.setOther · 5 ·) m s)
/-- LDC Rm,R6_BANK (R346). -/
def execLdcR6Bank (m : RegNum) (s : State) : Result := privileged s (loadControl (State.setOther · 6 ·) m s)
/-- LDC Rm,R7_BANK (R347). -/
def execLdcR7Bank (m : RegNum) (s : State) : Result := privileged s (loadControl (State.setOther · 7 ·) m s)

/-! ### LDC.L (R348 to R360) -/

/-- LDC.L @Rm+,SR (R348). -/
def execLdcLSr (m : RegNum) (s : State) : Result := privileged s (loadControlMem putSr m s)
/-- LDC.L @Rm+,GBR (R349). -/
def execLdcLGbr (m : RegNum) (s : State) : Result := loadControlMem State.setGbr m s
/-- LDC.L @Rm+,VBR (R350). -/
def execLdcLVbr (m : RegNum) (s : State) : Result := privileged s (loadControlMem State.setVbr m s)
/-- LDC.L @Rm+,SSR (R351). -/
def execLdcLSsr (m : RegNum) (s : State) : Result := privileged s (loadControlMem putSsr m s)
/-- LDC.L @Rm+,SPC (R352). -/
def execLdcLSpc (m : RegNum) (s : State) : Result := privileged s (loadControlMem State.setSpc m s)
/-- LDC.L @Rm+,R0_BANK (R353). -/
def execLdcLR0Bank (m : RegNum) (s : State) : Result :=
  privileged s (loadControlMem (State.setOther · 0 ·) m s)
/-- LDC.L @Rm+,R1_BANK (R354). -/
def execLdcLR1Bank (m : RegNum) (s : State) : Result :=
  privileged s (loadControlMem (State.setOther · 1 ·) m s)
/-- LDC.L @Rm+,R2_BANK (R355). -/
def execLdcLR2Bank (m : RegNum) (s : State) : Result :=
  privileged s (loadControlMem (State.setOther · 2 ·) m s)
/-- LDC.L @Rm+,R3_BANK (R356). -/
def execLdcLR3Bank (m : RegNum) (s : State) : Result :=
  privileged s (loadControlMem (State.setOther · 3 ·) m s)
/-- LDC.L @Rm+,R4_BANK (R357). -/
def execLdcLR4Bank (m : RegNum) (s : State) : Result :=
  privileged s (loadControlMem (State.setOther · 4 ·) m s)
/-- LDC.L @Rm+,R5_BANK (R358). -/
def execLdcLR5Bank (m : RegNum) (s : State) : Result :=
  privileged s (loadControlMem (State.setOther · 5 ·) m s)
/-- LDC.L @Rm+,R6_BANK (R359). -/
def execLdcLR6Bank (m : RegNum) (s : State) : Result :=
  privileged s (loadControlMem (State.setOther · 6 ·) m s)
/-- LDC.L @Rm+,R7_BANK (R360). -/
def execLdcLR7Bank (m : RegNum) (s : State) : Result :=
  privileged s (loadControlMem (State.setOther · 7 ·) m s)

/-! ### LDS and LDS.L (R361 to R366) -/

/-- LDS Rm,MACH (R361). -/
def execLdsMach (m : RegNum) (s : State) : Result := loadControl State.setMach m s
/-- LDS Rm,MACL (R362). -/
def execLdsMacl (m : RegNum) (s : State) : Result := loadControl State.setMacl m s
/-- LDS Rm,PR (R363). -/
def execLdsPr (m : RegNum) (s : State) : Result := loadControl State.setPr m s
/-- LDS.L @Rm+,MACH (R364). -/
def execLdsLMach (m : RegNum) (s : State) : Result := loadControlMem State.setMach m s
/-- LDS.L @Rm+,MACL (R365). -/
def execLdsLMacl (m : RegNum) (s : State) : Result := loadControlMem State.setMacl m s
/-- LDS.L @Rm+,PR (R366). -/
def execLdsLPr (m : RegNum) (s : State) : Result := loadControlMem State.setPr m s

/-! ### STC (R373 to R385) -/

/-- STC SR,Rn (R373). -/
def execStcSr (n : RegNum) (s : State) : Result := privileged s (storeControl s.sr n s)
/-- STC GBR,Rn (R374). -/
def execStcGbr (n : RegNum) (s : State) : Result := storeControl s.gbr n s
/-- STC VBR,Rn (R375). -/
def execStcVbr (n : RegNum) (s : State) : Result := privileged s (storeControl s.vbr n s)
/-- STC SSR,Rn (R376). -/
def execStcSsr (n : RegNum) (s : State) : Result := privileged s (storeControl s.ssr n s)
/-- STC SPC,Rn (R377). -/
def execStcSpc (n : RegNum) (s : State) : Result := privileged s (storeControl s.spc n s)
/-- STC R0_BANK,Rn (R378). -/
def execStcR0Bank (n : RegNum) (s : State) : Result := privileged s (storeControl (s.other 0) n s)
/-- STC R1_BANK,Rn (R379). -/
def execStcR1Bank (n : RegNum) (s : State) : Result := privileged s (storeControl (s.other 1) n s)
/-- STC R2_BANK,Rn (R380). -/
def execStcR2Bank (n : RegNum) (s : State) : Result := privileged s (storeControl (s.other 2) n s)
/-- STC R3_BANK,Rn (R381). -/
def execStcR3Bank (n : RegNum) (s : State) : Result := privileged s (storeControl (s.other 3) n s)
/-- STC R4_BANK,Rn (R382). -/
def execStcR4Bank (n : RegNum) (s : State) : Result := privileged s (storeControl (s.other 4) n s)
/-- STC R5_BANK,Rn (R383). -/
def execStcR5Bank (n : RegNum) (s : State) : Result := privileged s (storeControl (s.other 5) n s)
/-- STC R6_BANK,Rn (R384). -/
def execStcR6Bank (n : RegNum) (s : State) : Result := privileged s (storeControl (s.other 6) n s)
/-- STC R7_BANK,Rn (R385). -/
def execStcR7Bank (n : RegNum) (s : State) : Result := privileged s (storeControl (s.other 7) n s)

/-! ### STC.L (R386 to R398) -/

/-- STC.L SR,@-Rn (R386). -/
def execStcLSr (n : RegNum) (s : State) : Result := privileged s (storeControlMem s.sr n s)
/-- STC.L GBR,@-Rn (R387). -/
def execStcLGbr (n : RegNum) (s : State) : Result := storeControlMem s.gbr n s
/-- STC.L VBR,@-Rn (R388). -/
def execStcLVbr (n : RegNum) (s : State) : Result := privileged s (storeControlMem s.vbr n s)
/-- STC.L SSR,@-Rn (R389). -/
def execStcLSsr (n : RegNum) (s : State) : Result := privileged s (storeControlMem s.ssr n s)
/-- STC.L SPC,@-Rn (R390). -/
def execStcLSpc (n : RegNum) (s : State) : Result := privileged s (storeControlMem s.spc n s)
/-- STC.L R0_BANK,@-Rn (R391). -/
def execStcLR0Bank (n : RegNum) (s : State) : Result := privileged s (storeControlMem (s.other 0) n s)
/-- STC.L R1_BANK,@-Rn (R392). -/
def execStcLR1Bank (n : RegNum) (s : State) : Result := privileged s (storeControlMem (s.other 1) n s)
/-- STC.L R2_BANK,@-Rn (R393). -/
def execStcLR2Bank (n : RegNum) (s : State) : Result := privileged s (storeControlMem (s.other 2) n s)
/-- STC.L R3_BANK,@-Rn (R394). -/
def execStcLR3Bank (n : RegNum) (s : State) : Result := privileged s (storeControlMem (s.other 3) n s)
/-- STC.L R4_BANK,@-Rn (R395). -/
def execStcLR4Bank (n : RegNum) (s : State) : Result := privileged s (storeControlMem (s.other 4) n s)
/-- STC.L R5_BANK,@-Rn (R396). -/
def execStcLR5Bank (n : RegNum) (s : State) : Result := privileged s (storeControlMem (s.other 5) n s)
/-- STC.L R6_BANK,@-Rn (R397). -/
def execStcLR6Bank (n : RegNum) (s : State) : Result := privileged s (storeControlMem (s.other 6) n s)
/-- STC.L R7_BANK,@-Rn (R398). -/
def execStcLR7Bank (n : RegNum) (s : State) : Result := privileged s (storeControlMem (s.other 7) n s)

/-! ### STS and STS.L (R399 to R404) -/

/-- STS MACH,Rn (R399). -/
def execStsMach (n : RegNum) (s : State) : Result := storeControl s.mach n s
/-- STS MACL,Rn (R400). -/
def execStsMacl (n : RegNum) (s : State) : Result := storeControl s.macl n s
/-- STS PR,Rn (R401). -/
def execStsPr (n : RegNum) (s : State) : Result := storeControl s.pr n s
/-- STS.L MACH,@-Rn (R402). -/
def execStsLMach (n : RegNum) (s : State) : Result := storeControlMem s.mach n s
/-- STS.L MACL,@-Rn (R403). -/
def execStsLMacl (n : RegNum) (s : State) : Result := storeControlMem s.macl n s
/-- STS.L PR,@-Rn (R404). -/
def execStsLPr (n : RegNum) (s : State) : Result := storeControlMem s.pr n s

/-! ### RTE, LDTLB, SLEEP, TRAPA -/

/-- RTE (R368): illegal in a delay slot, privileged, delayed. -/
def execRte (s : State) : Result := outsideSlot s (privileged s (.next s.returnFromException))

/-- The index that the virtual address in PTEH selects (R53): below `TLBEntries` where there are any (R8). -/
def State.tlbIndex (s : State) : Nat := Config.tlbIndex s.pteh % s.platform.tlbEntries

/-- The entry that LDTLB writes: PTEH and PTEL at the index PTEH selects and the way MMUCR.RC names (R370). -/
def State.tlbEntry (s : State) : TlbEntry :=
  { index := s.tlbIndex, way := s.rc.toNat, tag := s.pteh, data := s.ptel }

/-- The platform's TLB has the way that MMUCR.RC names, and entries in it (R8, R53). -/
def State.tlbHasEntry (s : State) : Bool := decide (s.rc.toNat < s.platform.tlbWays) && decide (0 < s.platform.tlbEntries)

/-- The TLB after LDTLB (R370). Where the platform has no such way or entry, nothing is written (DESIGN CHOICE, log entry
19). -/
def State.loadTlb (s : State) : State :=
  { s with tlb := if s.tlbHasEntry then Tlb.write s.tlb s.tlbEntry else s.tlb }

/-- LDTLB (R370). -/
def execLdtlb (s : State) : Result := privileged s (.next s.loadTlb.advance)

/-- The power-down state that STBCR.STBY selects (R372, R470). -/
def State.powerDown (s : State) : State := { s with mode := if s.stby then .standby else .sleeping }

/-- SLEEP (R372): it completes, then the processor stops fetching (D16, log entry 14). -/
def execSleep (s : State) : Result := privileged s (.next s.advance.powerDown)

/-- TRAPA #imm (R405). -/
def execTrapa (imm : BitVec 8) (s : State) : Result := outsideSlot s (.next (s.raise (.trapa imm)))

end Sys2Proof.Machine
end

