-- ==== Sys2Proof/Machine/Dispatch.lean ====
section
/-! DEFINITION. The meaning of every instruction, one arm each, in the order of spec/opcode_table.json. -/

namespace Sys2Proof.Machine

def exec (i : Instr) (s : State) : Host.Outcome State Fault Refusal :=
  match i with
  | .movImm imm n => Sys2Proof.Machine.execMovImm imm n s
  | .movWLoadPc disp n => Sys2Proof.Machine.execMovWLoadPc disp n s
  | .movLLoadPc disp n => Sys2Proof.Machine.execMovLLoadPc disp n s
  | .mov m n => Sys2Proof.Machine.execMov m n s
  | .movBStore m n => Sys2Proof.Machine.execMovBStore m n s
  | .movWStore m n => Sys2Proof.Machine.execMovWStore m n s
  | .movLStore m n => Sys2Proof.Machine.execMovLStore m n s
  | .movBLoad m n => Sys2Proof.Machine.execMovBLoad m n s
  | .movWLoad m n => Sys2Proof.Machine.execMovWLoad m n s
  | .movLLoad m n => Sys2Proof.Machine.execMovLLoad m n s
  | .movBPreDec m n => Sys2Proof.Machine.execMovBPreDec m n s
  | .movWPreDec m n => Sys2Proof.Machine.execMovWPreDec m n s
  | .movLPreDec m n => Sys2Proof.Machine.execMovLPreDec m n s
  | .movBPostInc m n => Sys2Proof.Machine.execMovBPostInc m n s
  | .movWPostInc m n => Sys2Proof.Machine.execMovWPostInc m n s
  | .movLPostInc m n => Sys2Proof.Machine.execMovLPostInc m n s
  | .movBStoreDisp disp n => Sys2Proof.Machine.execMovBStoreDisp disp n s
  | .movWStoreDisp disp n => Sys2Proof.Machine.execMovWStoreDisp disp n s
  | .movLStoreDisp m disp n => Sys2Proof.Machine.execMovLStoreDisp m disp n s
  | .movBLoadDisp disp m => Sys2Proof.Machine.execMovBLoadDisp disp m s
  | .movWLoadDisp disp m => Sys2Proof.Machine.execMovWLoadDisp disp m s
  | .movLLoadDisp disp m n => Sys2Proof.Machine.execMovLLoadDisp disp m n s
  | .movBStoreIdx m n => Sys2Proof.Machine.execMovBStoreIdx m n s
  | .movWStoreIdx m n => Sys2Proof.Machine.execMovWStoreIdx m n s
  | .movLStoreIdx m n => Sys2Proof.Machine.execMovLStoreIdx m n s
  | .movBLoadIdx m n => Sys2Proof.Machine.execMovBLoadIdx m n s
  | .movWLoadIdx m n => Sys2Proof.Machine.execMovWLoadIdx m n s
  | .movLLoadIdx m n => Sys2Proof.Machine.execMovLLoadIdx m n s
  | .movBStoreGbr disp => Sys2Proof.Machine.execMovBStoreGbr disp s
  | .movWStoreGbr disp => Sys2Proof.Machine.execMovWStoreGbr disp s
  | .movLStoreGbr disp => Sys2Proof.Machine.execMovLStoreGbr disp s
  | .movBLoadGbr disp => Sys2Proof.Machine.execMovBLoadGbr disp s
  | .movWLoadGbr disp => Sys2Proof.Machine.execMovWLoadGbr disp s
  | .movLLoadGbr disp => Sys2Proof.Machine.execMovLLoadGbr disp s
  | .mova disp => Sys2Proof.Machine.execMova disp s
  | .movt n => Sys2Proof.Machine.execMovt n s
  | .pref n => Sys2Proof.Machine.execPref n s
  | .swapB m n => Sys2Proof.Machine.execSwapB m n s
  | .swapW m n => Sys2Proof.Machine.execSwapW m n s
  | .xtrct m n => Sys2Proof.Machine.execXtrct m n s
  | .add m n => Sys2Proof.Machine.execAdd m n s
  | .addImm imm n => Sys2Proof.Machine.execAddImm imm n s
  | .addc m n => Sys2Proof.Machine.execAddc m n s
  | .addv m n => Sys2Proof.Machine.execAddv m n s
  | .cmpEqImm imm => Sys2Proof.Machine.execCmpEqImm imm s
  | .cmpEq m n => Sys2Proof.Machine.execCmpEq m n s
  | .cmpHs m n => Sys2Proof.Machine.execCmpHs m n s
  | .cmpGe m n => Sys2Proof.Machine.execCmpGe m n s
  | .cmpHi m n => Sys2Proof.Machine.execCmpHi m n s
  | .cmpGt m n => Sys2Proof.Machine.execCmpGt m n s
  | .cmpPz n => Sys2Proof.Machine.execCmpPz n s
  | .cmpPl n => Sys2Proof.Machine.execCmpPl n s
  | .cmpStr m n => Sys2Proof.Machine.execCmpStr m n s
  | .div1 m n => Sys2Proof.Machine.execDiv1 m n s
  | .div0s m n => Sys2Proof.Machine.execDiv0s m n s
  | .div0u => Sys2Proof.Machine.execDiv0u s
  | .dmulsL m n => Sys2Proof.Machine.execDmulsL m n s
  | .dmuluL m n => Sys2Proof.Machine.execDmuluL m n s
  | .dt n => Sys2Proof.Machine.execDt n s
  | .extsB m n => Sys2Proof.Machine.execExtsB m n s
  | .extsW m n => Sys2Proof.Machine.execExtsW m n s
  | .extuB m n => Sys2Proof.Machine.execExtuB m n s
  | .extuW m n => Sys2Proof.Machine.execExtuW m n s
  | .macL m n => Sys2Proof.Machine.execMacL m n s
  | .macW m n => Sys2Proof.Machine.execMacW m n s
  | .mulL m n => Sys2Proof.Machine.execMulL m n s
  | .mulsW m n => Sys2Proof.Machine.execMulsW m n s
  | .muluW m n => Sys2Proof.Machine.execMuluW m n s
  | .neg m n => Sys2Proof.Machine.execNeg m n s
  | .negc m n => Sys2Proof.Machine.execNegc m n s
  | .sub m n => Sys2Proof.Machine.execSub m n s
  | .subc m n => Sys2Proof.Machine.execSubc m n s
  | .subv m n => Sys2Proof.Machine.execSubv m n s
  | .and m n => Sys2Proof.Machine.execAnd m n s
  | .andImm imm => Sys2Proof.Machine.execAndImm imm s
  | .andB imm => Sys2Proof.Machine.execAndB imm s
  | .not m n => Sys2Proof.Machine.execNot m n s
  | .or m n => Sys2Proof.Machine.execOr m n s
  | .orImm imm => Sys2Proof.Machine.execOrImm imm s
  | .orB imm => Sys2Proof.Machine.execOrB imm s
  | .tasB n => Sys2Proof.Machine.execTasB n s
  | .tst m n => Sys2Proof.Machine.execTst m n s
  | .tstImm imm => Sys2Proof.Machine.execTstImm imm s
  | .tstB imm => Sys2Proof.Machine.execTstB imm s
  | .xor m n => Sys2Proof.Machine.execXor m n s
  | .xorImm imm => Sys2Proof.Machine.execXorImm imm s
  | .xorB imm => Sys2Proof.Machine.execXorB imm s
  | .rotl n => Sys2Proof.Machine.execRotl n s
  | .rotr n => Sys2Proof.Machine.execRotr n s
  | .rotcl n => Sys2Proof.Machine.execRotcl n s
  | .rotcr n => Sys2Proof.Machine.execRotcr n s
  | .shad m n => Sys2Proof.Machine.execShad m n s
  | .shal n => Sys2Proof.Machine.execShal n s
  | .shar n => Sys2Proof.Machine.execShar n s
  | .shld m n => Sys2Proof.Machine.execShld m n s
  | .shll n => Sys2Proof.Machine.execShll n s
  | .shlr n => Sys2Proof.Machine.execShlr n s
  | .shll2 n => Sys2Proof.Machine.execShll2 n s
  | .shlr2 n => Sys2Proof.Machine.execShlr2 n s
  | .shll8 n => Sys2Proof.Machine.execShll8 n s
  | .shlr8 n => Sys2Proof.Machine.execShlr8 n s
  | .shll16 n => Sys2Proof.Machine.execShll16 n s
  | .shlr16 n => Sys2Proof.Machine.execShlr16 n s
  | .bf disp => Sys2Proof.Machine.execBf disp s
  | .bfS disp => Sys2Proof.Machine.execBfS disp s
  | .bt disp => Sys2Proof.Machine.execBt disp s
  | .btS disp => Sys2Proof.Machine.execBtS disp s
  | .bra disp => Sys2Proof.Machine.execBra disp s
  | .braf n => Sys2Proof.Machine.execBraf n s
  | .bsr disp => Sys2Proof.Machine.execBsr disp s
  | .bsrf n => Sys2Proof.Machine.execBsrf n s
  | .jmp n => Sys2Proof.Machine.execJmp n s
  | .jsr n => Sys2Proof.Machine.execJsr n s
  | .rts => Sys2Proof.Machine.execRts s
  | .clrmac => Sys2Proof.Machine.execClrmac s
  | .clrs => Sys2Proof.Machine.execClrs s
  | .clrt => Sys2Proof.Machine.execClrt s
  | .ldcSr m => Sys2Proof.Machine.execLdcSr m s
  | .ldcGbr m => Sys2Proof.Machine.execLdcGbr m s
  | .ldcVbr m => Sys2Proof.Machine.execLdcVbr m s
  | .ldcSsr m => Sys2Proof.Machine.execLdcSsr m s
  | .ldcSpc m => Sys2Proof.Machine.execLdcSpc m s
  | .ldcR0Bank m => Sys2Proof.Machine.execLdcR0Bank m s
  | .ldcR1Bank m => Sys2Proof.Machine.execLdcR1Bank m s
  | .ldcR2Bank m => Sys2Proof.Machine.execLdcR2Bank m s
  | .ldcR3Bank m => Sys2Proof.Machine.execLdcR3Bank m s
  | .ldcR4Bank m => Sys2Proof.Machine.execLdcR4Bank m s
  | .ldcR5Bank m => Sys2Proof.Machine.execLdcR5Bank m s
  | .ldcR6Bank m => Sys2Proof.Machine.execLdcR6Bank m s
  | .ldcR7Bank m => Sys2Proof.Machine.execLdcR7Bank m s
  | .ldcLSr m => Sys2Proof.Machine.execLdcLSr m s
  | .ldcLGbr m => Sys2Proof.Machine.execLdcLGbr m s
  | .ldcLVbr m => Sys2Proof.Machine.execLdcLVbr m s
  | .ldcLSsr m => Sys2Proof.Machine.execLdcLSsr m s
  | .ldcLSpc m => Sys2Proof.Machine.execLdcLSpc m s
  | .ldcLR0Bank m => Sys2Proof.Machine.execLdcLR0Bank m s
  | .ldcLR1Bank m => Sys2Proof.Machine.execLdcLR1Bank m s
  | .ldcLR2Bank m => Sys2Proof.Machine.execLdcLR2Bank m s
  | .ldcLR3Bank m => Sys2Proof.Machine.execLdcLR3Bank m s
  | .ldcLR4Bank m => Sys2Proof.Machine.execLdcLR4Bank m s
  | .ldcLR5Bank m => Sys2Proof.Machine.execLdcLR5Bank m s
  | .ldcLR6Bank m => Sys2Proof.Machine.execLdcLR6Bank m s
  | .ldcLR7Bank m => Sys2Proof.Machine.execLdcLR7Bank m s
  | .ldsMach m => Sys2Proof.Machine.execLdsMach m s
  | .ldsMacl m => Sys2Proof.Machine.execLdsMacl m s
  | .ldsPr m => Sys2Proof.Machine.execLdsPr m s
  | .ldsLMach m => Sys2Proof.Machine.execLdsLMach m s
  | .ldsLMacl m => Sys2Proof.Machine.execLdsLMacl m s
  | .ldsLPr m => Sys2Proof.Machine.execLdsLPr m s
  | .nop => Sys2Proof.Machine.execNop s
  | .rte => Sys2Proof.Machine.execRte s
  | .sets => Sys2Proof.Machine.execSets s
  | .ldtlb => Sys2Proof.Machine.execLdtlb s
  | .sett => Sys2Proof.Machine.execSett s
  | .sleep => Sys2Proof.Machine.execSleep s
  | .stcSr n => Sys2Proof.Machine.execStcSr n s
  | .stcGbr n => Sys2Proof.Machine.execStcGbr n s
  | .stcVbr n => Sys2Proof.Machine.execStcVbr n s
  | .stcSsr n => Sys2Proof.Machine.execStcSsr n s
  | .stcSpc n => Sys2Proof.Machine.execStcSpc n s
  | .stcR0Bank n => Sys2Proof.Machine.execStcR0Bank n s
  | .stcR1Bank n => Sys2Proof.Machine.execStcR1Bank n s
  | .stcR2Bank n => Sys2Proof.Machine.execStcR2Bank n s
  | .stcR3Bank n => Sys2Proof.Machine.execStcR3Bank n s
  | .stcR4Bank n => Sys2Proof.Machine.execStcR4Bank n s
  | .stcR5Bank n => Sys2Proof.Machine.execStcR5Bank n s
  | .stcR6Bank n => Sys2Proof.Machine.execStcR6Bank n s
  | .stcR7Bank n => Sys2Proof.Machine.execStcR7Bank n s
  | .stcLSr n => Sys2Proof.Machine.execStcLSr n s
  | .stcLGbr n => Sys2Proof.Machine.execStcLGbr n s
  | .stcLVbr n => Sys2Proof.Machine.execStcLVbr n s
  | .stcLSsr n => Sys2Proof.Machine.execStcLSsr n s
  | .stcLSpc n => Sys2Proof.Machine.execStcLSpc n s
  | .stcLR0Bank n => Sys2Proof.Machine.execStcLR0Bank n s
  | .stcLR1Bank n => Sys2Proof.Machine.execStcLR1Bank n s
  | .stcLR2Bank n => Sys2Proof.Machine.execStcLR2Bank n s
  | .stcLR3Bank n => Sys2Proof.Machine.execStcLR3Bank n s
  | .stcLR4Bank n => Sys2Proof.Machine.execStcLR4Bank n s
  | .stcLR5Bank n => Sys2Proof.Machine.execStcLR5Bank n s
  | .stcLR6Bank n => Sys2Proof.Machine.execStcLR6Bank n s
  | .stcLR7Bank n => Sys2Proof.Machine.execStcLR7Bank n s
  | .stsMach n => Sys2Proof.Machine.execStsMach n s
  | .stsMacl n => Sys2Proof.Machine.execStsMacl n s
  | .stsPr n => Sys2Proof.Machine.execStsPr n s
  | .stsLMach n => Sys2Proof.Machine.execStsLMach n s
  | .stsLMacl n => Sys2Proof.Machine.execStsLMacl n s
  | .stsLPr n => Sys2Proof.Machine.execStsLPr n s
  | .trapa imm => Sys2Proof.Machine.execTrapa imm s

end Sys2Proof.Machine
end

