-- ==== Sys2Proof/Machine/Step.lean ====
section
/-! DEFINITION. One step (00_scope.md R18, 60_exceptions.md R447): reset, else an acceptable interrupt, else fetch, decode
and execute one instruction. -/

namespace Sys2Proof.Machine

/-- Fetch, decode and execute (R18): a failed fetch is AddressError, undefined code IllegalInstruction (R125), or
SlotIllegalInstruction in a delay slot (R302). -/
def runInstruction (s : State) : Result :=
  match s.fetch with
  | none => .next (s.raise (.addressError .fetch))
  | some w =>
    match decode w with
    | .ok i => exec i s
    | .error _ => .next s.raiseIllegal

/-- A step without a reset or an accepted interrupt: in sleep or standby nothing happens (R470). -/
def runOrWait (s : State) : Result :=
  match s.mode with
  | .running => runInstruction s
  | .sleeping | .standby => .next s

/-- One step of the machine. -/
def step (s : State) : Result :=
  match s.input.reset, s.input.request with
  | some kind, _ => .next (s.afterInput.resetBy kind)
  | none, some r => if s.afterInput.accepts r then .next (s.afterInput.interrupt r) else runOrWait s.afterInput
  | none, none => runOrWait s.afterInput

/-- The state with the instruction whose bits are `w` stored at pc, where the step fetches, in the machine's byte
order. The processor runs and no input comes before it, so the very next step runs that instruction (log entry 8). -/
def State.withFetchWord (s : State) (nbits w : Nat) : State :=
  { s.storeCode (BitVec.ofNat 16 (w % 2 ^ nbits)) with inputs := [], mode := .running }

end Sys2Proof.Machine
end

