-- ==== Sys2Proof/WellFormed.lean ====
section
/-! DEFINITION. Which instructions are privileged, which are delayed branches and which may not stand in a delay slot;
and when a sequence of instructions keeps the placement rules the manual gives the programmer. The width of every
field of an instruction is in its type (Syntax.lean), so each single instruction is well formed; what can be ill
formed is how instructions stand next to each other. The machine does not rely on these checks: a program that
breaks one runs, with the effect the spec gives (70_reset_and_hazards.md R486 to R499, log entry 36). -/

namespace Sys2Proof

/-- The 51 privileged instructions (45_system_control.md R331). -/
def Instr.isPrivileged : Instr → Bool
  | .ldcSr _ | .ldcVbr _ | .ldcSsr _ | .ldcSpc _ | .ldcR0Bank _ | .ldcR1Bank _ | .ldcR2Bank _ | .ldcR3Bank _
  | .ldcR4Bank _ | .ldcR5Bank _ | .ldcR6Bank _ | .ldcR7Bank _ | .ldcLSr _ | .ldcLVbr _ | .ldcLSsr _
  | .ldcLSpc _ | .ldcLR0Bank _ | .ldcLR1Bank _ | .ldcLR2Bank _ | .ldcLR3Bank _ | .ldcLR4Bank _
  | .ldcLR5Bank _ | .ldcLR6Bank _ | .ldcLR7Bank _ | .rte | .ldtlb | .sleep | .stcSr _ | .stcVbr _ | .stcSsr _
  | .stcSpc _ | .stcR0Bank _ | .stcR1Bank _ | .stcR2Bank _ | .stcR3Bank _ | .stcR4Bank _ | .stcR5Bank _
  | .stcR6Bank _ | .stcR7Bank _ | .stcLSr _ | .stcLVbr _ | .stcLSsr _ | .stcLSpc _ | .stcLR0Bank _
  | .stcLR1Bank _ | .stcLR2Bank _ | .stcLR3Bank _ | .stcLR4Bank _ | .stcLR5Bank _ | .stcLR6Bank _
  | .stcLR7Bank _ => true
  | _ => false

/-- The ten delayed branches (44_branch.md R300), BF/S and BT/S among them. -/
def Instr.isDelayedBranch : Instr → Bool
  | .bfS _ | .btS _ | .bra _ | .braf _ | .bsr _ | .bsrf _ | .jmp _ | .jsr _ | .rts | .rte => true
  | _ => false

/-- The delayed branches that branch whatever the state is (44_branch.md R300): not BF/S and not BT/S. -/
def Instr.alwaysBranches : Instr → Bool
  | .bfS _ | .btS _ => false
  | i => i.isDelayedBranch

/-- The thirteen instructions that may not stand in a delay slot (44_branch.md R303). -/
def Instr.isSlotIllegal : Instr → Bool
  | .bf _ | .bt _ | .bra _ | .bsr _ | .jmp _ | .jsr _ | .rts | .rte | .trapa _ | .bfS _ | .btS _ | .braf _
  | .bsrf _ => true
  | _ => false

/-- The instructions that restore PR (44_branch.md R301, 70_reset_and_hazards.md R490). -/
def Instr.restoresPr : Instr → Bool
  | .ldsPr _ | .ldsLPr _ => true
  | _ => false

/-- Every pair of neighbours of a sequence satisfies `p`. -/
def Code.neighbours (p : Instr → Instr → Bool) : List Instr → Bool
  | i :: j :: rest => p i j && Code.neighbours p (j :: rest)
  | _ => true

/-- No instruction that is illegal in a delay slot stands after a branch that is always taken (44_branch.md R303,
70_reset_and_hazards.md R488). -/
def Code.slotsLegal : List Instr → Bool :=
  Code.neighbours fun i j => !(i.alwaysBranches && j.isSlotIllegal)

/-- No instruction that restores PR stands in the delay slot of RTS (44_branch.md R301, 70_reset_and_hazards.md R490). -/
def Code.prRestoredInTime : List Instr → Bool :=
  Code.neighbours fun i j => !(i = .rts && j.restoresPr)

/-- LDTLB stands at least two instructions before RTE (20_memory.md R94, 70_reset_and_hazards.md R494). -/
def Code.tlbLoadedInTime : List Instr → Bool :=
  Code.neighbours fun i j => !(i = .ldtlb && j = .rte)

/-- A sequence of instructions keeps the placement rules. -/
def Code.wellFormed (c : List Instr) : Bool :=
  Code.slotsLegal c && Code.prRestoredInTime c && Code.tlbLoadedInTime c

end Sys2Proof
end

