-- ==== Sys2Proof/Safety.lean ====
section
/-! DEFINITION. The terms in which claims about the machine are made: views of the state, what an instruction leaves
behind, the invariant of the machine, and the spec's own lists and operand tables. Nothing here is used by the
machine. -/

namespace Sys2Proof.Machine

/-! ### Views of the state -/

/-- The registers beside the general registers and SR (R26 to R30, R43, R44). -/
structure SystemRegs where
  gbr : Word
  vbr : Word
  ssr : Word
  spc : Word
  mach : Word
  macl : Word
  pr : Word
  deriving DecidableEq, Repr

/-- The memory-mapped registers (R45 to R50). -/
structure MappedRegs where
  expevt : BitVec 12
  tra : BitVec 8
  intevt : Word
  pteh : Word
  ptel : Word
  mmucr : Word
  stbcr : Byte
  deriving DecidableEq, Repr

/-- What is neither a register nor memory nor the place of the next instruction. -/
structure Surroundings where
  tlb : List TlbEntry
  littleEndian : Bool
  md5 : Bool
  mode : Mode
  memMap : List Region
  platform : Platform
  deviceIn : List Word
  deviceOut : List DeviceEvent
  inputs : List HostInput
  freeCount : Nat
  deriving DecidableEq, Repr

/-- The system registers of a state. -/
def State.system (s : State) : SystemRegs :=
  { gbr := s.gbr, vbr := s.vbr, ssr := s.ssr, spc := s.spc, mach := s.mach, macl := s.macl, pr := s.pr }

/-- The memory-mapped registers of a state. -/
def State.mapped (s : State) : MappedRegs :=
  { expevt := s.expevt, tra := s.tra, intevt := s.intevt, pteh := s.pteh, ptel := s.ptel, mmucr := s.mmucr,
    stbcr := s.stbcr }

/-- The surroundings of a state. -/
def State.surroundings (s : State) : Surroundings :=
  { tlb := s.tlb, littleEndian := s.littleEndian, md5 := s.md5, mode := s.mode, memMap := s.memMap,
    platform := s.platform, deviceIn := s.deviceIn, deviceOut := s.deviceOut, inputs := s.inputs,
    freeCount := s.freeCount }

/-- The 24 general registers once `R[n]` holds `v` (R20, R22). -/
def State.regsWith (s : State) (n : RegNum) (v : Word) : PhysReg → Word :=
  Function.update s.gpr.read (physReg s.sr n) v

/-- SR with bit 0 replaced (R31). -/
def srWithT (sr : Word) (t : Bool) : Word := (sr &&& 0xFFFFFFFE#32) ||| ofFlag t

/-- SR with bit 1 replaced (R31). -/
def srWithS (sr : Word) (b : Bool) : Word := (sr &&& 0xFFFFFFFD#32) ||| (ofFlag b <<< 1)

/-- SR with bits 8 (Q) and 0 (T) replaced (R31). -/
def srWithQT (sr : Word) (q t : Bool) : Word := (sr &&& 0xFFFFFEFE#32) ||| (ofFlag q <<< 8) ||| ofFlag t

/-- SR with bits 9 (M), 8 (Q) and 0 (T) replaced (R31). -/
def srWithMQT (sr : Word) (m q t : Bool) : Word :=
  (sr &&& 0xFFFFFCFE#32) ||| (ofFlag m <<< 9) ||| (ofFlag q <<< 8) ||| ofFlag t

/-! ### What an instruction leaves behind -/

/-- Every byte reads as before, of memory and of the control registers. What a device answers is no byte but an event of
its own (R96), which `Surroundings` holds. -/
def SameMemory (s t : State) : Prop := ∀ a, t.readByte a = s.readByte a

/-- The next instruction is the one that follows: the next word, or after a delay slot the branch's target (R41, R302). -/
def Advanced (s t : State) : Prop := t.pc = s.pending.getD (s.pc + 2#32) ∧ t.pending = none

/-- From `s` to `t` the general registers, SR and the system registers become the values given, and nothing else
changes but the place of the next instruction. -/
def Leaves (s t : State) (regs : PhysReg → Word) (sr : Word) (sys : SystemRegs) : Prop :=
  (∀ p, t.gpr.read p = regs p) ∧ t.sr = sr ∧ t.system = sys ∧ t.mapped = s.mapped ∧
    t.surroundings = s.surroundings ∧ SameMemory s t

/-- The instruction completes: a next state in which registers, SR and system registers are as given, nothing else has
changed, and the following instruction comes next. -/
def Completes (i : Instr) (s : State) (regs : PhysReg → Word) (sr : Word) (sys : SystemRegs) : Prop :=
  ∃ t, exec i s = .next t ∧ Leaves s t regs sr sys ∧ Advanced s t

/-- The instruction completes with one read of memory or of a device: as `Completes`, and nothing else has changed since
the read was done (R75, R96). -/
def CompletesRead (i : Instr) (s : State) (a : Word) (z : Size) (regs : PhysReg → Word) (sr : Word)
    (sys : SystemRegs) : Prop :=
  ∃ t, exec i s = .next t ∧ Leaves (s.afterRead a z) t regs sr sys ∧ Advanced s t

/-- The instruction is a delayed branch that is taken (R301). -/
def BranchesDelayed (i : Instr) (s : State) (sr : Word) (sys : SystemRegs) (target : Word) : Prop :=
  ∃ t, exec i s = .next t ∧ Leaves s t s.gpr.read sr sys ∧ t.pc = s.pc + 2#32 ∧ t.pending = some target

/-- The address lies in the access of a size at `a`. -/
def inAccess (a : Word) (z : Size) (b : Word) : Prop := (b - a).toNat < z.bytes

/-- The access is one of memory: its first byte is no device's (log entry 17), and none is a control register's. -/
def State.plain (s : State) (a : Word) (z : Size) : Prop :=
  s.isDevice a = false ∧ ∀ b, inAccess a z b → ctrlByte s.platform b = none

/-- The access is to a whole control register at its own address and size (R52). -/
def State.ctrlAt (s : State) (a : Word) (z : Size) (r : CtrlReg) : Prop :=
  z.bytes = r.bytes ∧ ∀ k < r.bytes, ctrlByte s.platform (a + BitVec.ofNat 32 k) = some (r, k)

/-- What a store of a size at `a` does to memory, to the control registers and to the devices (R76, R96): nothing outside
its bytes; in memory its bytes read back as the datum; at a control register's own address and size the register
takes the datum; at a device the host observes the write. -/
def StoreEffect (s t : State) (a : Word) (z : Size) (v : Word) : Prop :=
  (∀ b, ¬ inAccess a z b → t.readByte b = s.readByte b) ∧
  (s.plain a z → t.mapped = s.mapped ∧ (Memory.wf s.mem = true → t.memRead a z = z.low v)) ∧
  (∀ r : CtrlReg, s.ctrlAt a z r → t.mapped = (r.set v s).mapped) ∧
  (s.isDevice a = false → t.surroundings = s.surroundings) ∧
  (s.isDevice a = true → SameMemory s t ∧ t.mapped = s.mapped ∧
    t.surroundings = { s.surroundings with deviceOut := s.deviceOut ++ [.write a z (z.low v)] })

/-- The instruction completes with a store: registers and SR become the values given, the system registers stay, the
store has its effect, and the following instruction comes next. -/
def CompletesStore (i : Instr) (s : State) (regs : PhysReg → Word) (sr : Word) (a : Word) (z : Size) (v : Word) :
    Prop :=
  ∃ t, exec i s = .next t ∧ (∀ p, t.gpr.read p = regs p) ∧ t.sr = sr ∧ t.system = s.system ∧ StoreEffect s t a z v ∧
    Advanced s t

/-- The instruction completes with a read of a byte and a store to it: as `CompletesStore`, once the read has been done
(R81, R96). -/
def CompletesUpdate (i : Instr) (s : State) (sr : Word) (a : Word) (v : Byte) : Prop :=
  ∃ t, exec i s = .next t ∧ (∀ p, t.gpr.read p = s.gpr.read p) ∧ t.sr = sr ∧ t.system = s.system ∧
    StoreEffect (s.afterRead a .byte) t a .byte (v.setWidth 32) ∧ Advanced s t

/-- The instruction raises an exception and does nothing else (R447). -/
def Raises (i : Instr) (s : State) (e : Exc) : Prop := exec i s = .next (s.raise e)

/-! ### The invariant of the machine -/

/-- Reserved bits of a status register are 0 (R39, R43). -/
def reservedClear (v : Word) : Prop := v &&& 0x8FFFFC0C#32 = 0#32

/-- Every entry of the TLB lies within the platform's geometry (R8, R53). -/
def State.tlbInRange (s : State) : Prop :=
  ∀ e ∈ s.tlb, e.index < s.platform.tlbEntries ∧ e.way < s.platform.tlbWays

/-- What holds of every state of a run: memory and TLB are canonical, the TLB's entries lie within the platform's
geometry, the reserved bits of SR and SSR are 0, and no branch is pending in a power-down state. -/
def State.Inv (s : State) : Prop :=
  Memory.wf s.mem = true ∧ Tlb.wf s.tlb = true ∧ s.tlbInRange ∧ reservedClear s.sr ∧ reservedClear s.ssr ∧
    (s.mode ≠ .running → s.pending = none)

/-- What user mode can neither read nor write (R59) replaced by other values. -/
def State.withHidden (s : State) (bank1 : Vector Word 8) (ssr spc : Word) : State :=
  { s with gpr := { s.gpr with bank1 := bank1 }, ssr := ssr, spc := spc }

/-! ### The undefined words, as R124 lists them -/

/-- The word with fields a, n, f, l (bits 15 to 12, 11 to 8, 7 to 4, 3 to 0) stands in the list of R124. -/
def undefinedCode (a n f l : BitVec 4) : Bool :=
  match a.toNat, l.toNat with
  | 0x0, 0 | 0x0, 1 => true
  | 0x0, 2 => decide (5 ≤ f.toNat ∧ f.toNat ≤ 7)
  | 0x0, 3 => decide (f.toNat ≠ 0 ∧ f.toNat ≠ 2 ∧ f.toNat ≠ 8)
  | 0x0, 8 => !decide (n.toNat = 0 ∧ f.toNat ≤ 5)
  | 0x0, 9 => !decide ((n.toNat = 0 ∧ f.toNat ≤ 1) ∨ f.toNat = 2)
  | 0x0, 0xA => decide (3 ≤ f.toNat)
  | 0x0, 0xB => !decide (n.toNat = 0 ∧ f.toNat ≤ 2)
  | 0x2, 3 => true
  | 0x3, 1 | 0x3, 9 => true
  | 0x4, 0 | 0x4, 1 | 0x4, 2 | 0x4, 5 | 0x4, 6 | 0x4, 8 | 0x4, 9 | 0x4, 0xA | 0x4, 0xB => decide (3 ≤ f.toNat)
  | 0x4, 4 => decide (f.toNat ≠ 0 ∧ f.toNat ≠ 2)
  | 0x4, 3 | 0x4, 7 | 0x4, 0xE => decide (5 ≤ f.toNat ∧ f.toNat ≤ 7)
  | 0x8, _ => [2, 3, 6, 7, 0xA, 0xC, 0xE].contains n.toNat
  | 0xF, _ => true
  | _, _ => false

/-! ### Operand tables of the spec -/

/-- The loads through a register, with a displacement or an index: size, address, destination (R161 to R163, R173 to
R175, R179 to R181). -/
def loadForm (s : State) : Instr → Option (Size × Word × RegNum)
  | .movBLoad m n => some (.byte, s.reg m, n)
  | .movWLoad m n => some (.word, s.reg m, n)
  | .movLLoad m n => some (.long, s.reg m, n)
  | .movBLoadDisp disp m => some (.byte, s.dispReg m disp .byte, 0#4)
  | .movWLoadDisp disp m => some (.word, s.dispReg m disp .word, 0#4)
  | .movLLoadDisp disp m n => some (.long, s.dispReg m disp .long, n)
  | .movBLoadIdx m n => some (.byte, s.indexed m, n)
  | .movWLoadIdx m n => some (.word, s.indexed m, n)
  | .movLLoadIdx m n => some (.long, s.indexed m, n)
  | _ => none

/-- The loads relative to GBR and to PC: size, address, destination (R156, R157, R185 to R187). -/
def baseLoadForm (s : State) : Instr → Option (Size × Word × RegNum)
  | .movWLoadPc disp n => some (.word, s.pcWord disp, n)
  | .movLLoadPc disp n => some (.long, s.pcLong disp, n)
  | .movBLoadGbr disp => some (.byte, s.dispGbr disp .byte, 0#4)
  | .movWLoadGbr disp => some (.word, s.dispGbr disp .word, 0#4)
  | .movLLoadGbr disp => some (.long, s.dispGbr disp .long, 0#4)
  | _ => none

/-- The loads with post-increment: size, address register, destination (R167 to R169). -/
def postIncForm : Instr → Option (Size × RegNum × RegNum)
  | .movBPostInc m n => some (.byte, m, n)
  | .movWPostInc m n => some (.word, m, n)
  | .movLPostInc m n => some (.long, m, n)
  | _ => none

/-- The stores without pre-decrement: size, address, source (R158 to R160, R170 to R172, R176 to R178, R182 to R184). -/
def storeForm (s : State) : Instr → Option (Size × Word × RegNum)
  | .movBStore m n => some (.byte, s.reg n, m)
  | .movWStore m n => some (.word, s.reg n, m)
  | .movLStore m n => some (.long, s.reg n, m)
  | .movBStoreDisp disp n => some (.byte, s.dispReg n disp .byte, 0#4)
  | .movWStoreDisp disp n => some (.word, s.dispReg n disp .word, 0#4)
  | .movLStoreDisp m disp n => some (.long, s.dispReg n disp .long, m)
  | .movBStoreIdx m n => some (.byte, s.indexed n, m)
  | .movWStoreIdx m n => some (.word, s.indexed n, m)
  | .movLStoreIdx m n => some (.long, s.indexed n, m)
  | .movBStoreGbr disp => some (.byte, s.dispGbr disp .byte, 0#4)
  | .movWStoreGbr disp => some (.word, s.dispGbr disp .word, 0#4)
  | .movLStoreGbr disp => some (.long, s.dispGbr disp .long, 0#4)
  | _ => none

/-- The stores with pre-decrement: size, source, address register (R164 to R166). -/
def preDecForm : Instr → Option (Size × RegNum × RegNum)
  | .movBPreDec m n => some (.byte, m, n)
  | .movWPreDec m n => some (.word, m, n)
  | .movLPreDec m n => some (.long, m, n)
  | _ => none

/-- The read-modify-writes of memory: what the byte becomes (R263, R267, R274). -/
def byteLogicForm : Instr → Option (Byte → Byte)
  | .andB imm => some fun b => b &&& imm
  | .orB imm => some fun b => b ||| imm
  | .xorB imm => some fun b => b ^^^ imm
  | _ => none

/-- LDC Rm,Rj_BANK: source and j (R340 to R347). -/
def ldcBankForm : Instr → Option (RegNum × Fin 8)
  | .ldcR0Bank m => some (m, 0)
  | .ldcR1Bank m => some (m, 1)
  | .ldcR2Bank m => some (m, 2)
  | .ldcR3Bank m => some (m, 3)
  | .ldcR4Bank m => some (m, 4)
  | .ldcR5Bank m => some (m, 5)
  | .ldcR6Bank m => some (m, 6)
  | .ldcR7Bank m => some (m, 7)
  | _ => none

/-- STC Rj_BANK,Rn: j and destination (R378 to R385). -/
def stcBankForm : Instr → Option (Fin 8 × RegNum)
  | .stcR0Bank n => some (0, n)
  | .stcR1Bank n => some (1, n)
  | .stcR2Bank n => some (2, n)
  | .stcR3Bank n => some (3, n)
  | .stcR4Bank n => some (4, n)
  | .stcR5Bank n => some (5, n)
  | .stcR6Bank n => some (6, n)
  | .stcR7Bank n => some (7, n)
  | _ => none

/-- STC.L and STS.L: the value stored and the address register (R386 to R398, R402 to R404). -/
def stcLForm (s : State) : Instr → Option (Word × RegNum)
  | .stcLSr n => some (s.sr, n)
  | .stcLGbr n => some (s.gbr, n)
  | .stcLVbr n => some (s.vbr, n)
  | .stcLSsr n => some (s.ssr, n)
  | .stcLSpc n => some (s.spc, n)
  | .stcLR0Bank n => some (s.other 0, n)
  | .stcLR1Bank n => some (s.other 1, n)
  | .stcLR2Bank n => some (s.other 2, n)
  | .stcLR3Bank n => some (s.other 3, n)
  | .stcLR4Bank n => some (s.other 4, n)
  | .stcLR5Bank n => some (s.other 5, n)
  | .stcLR6Bank n => some (s.other 6, n)
  | .stcLR7Bank n => some (s.other 7, n)
  | .stsLMach n => some (s.mach, n)
  | .stsLMacl n => some (s.macl, n)
  | .stsLPr n => some (s.pr, n)
  | _ => none

/-- The general registers once the address register of `@Rm+` has been incremented by 4 (R348 to R366). -/
def State.regsPopped (s : State) (m : RegNum) : PhysReg → Word := s.regsWith m (s.reg m + 4#32)

/-- LDC.L and LDS.L: the address register, and the general registers, SR and system registers that the longword `v` leaves
(R348 to R360, R364 to R366). -/
def ldcLForm (s : State) (v : Word) : Instr → Option (RegNum × (PhysReg → Word) × Word × SystemRegs)
  | .ldcLSr m => some (m, s.regsPopped m, v &&& 0x700003F3#32, s.system)
  | .ldcLGbr m => some (m, s.regsPopped m, s.sr, { s.system with gbr := v })
  | .ldcLVbr m => some (m, s.regsPopped m, s.sr, { s.system with vbr := v })
  | .ldcLSsr m => some (m, s.regsPopped m, s.sr, { s.system with ssr := v &&& 0x700003F3#32 })
  | .ldcLSpc m => some (m, s.regsPopped m, s.sr, { s.system with spc := v })
  | .ldcLR0Bank m => some (m, Function.update (s.regsPopped m) (otherReg s.sr 0) v, s.sr, s.system)
  | .ldcLR1Bank m => some (m, Function.update (s.regsPopped m) (otherReg s.sr 1) v, s.sr, s.system)
  | .ldcLR2Bank m => some (m, Function.update (s.regsPopped m) (otherReg s.sr 2) v, s.sr, s.system)
  | .ldcLR3Bank m => some (m, Function.update (s.regsPopped m) (otherReg s.sr 3) v, s.sr, s.system)
  | .ldcLR4Bank m => some (m, Function.update (s.regsPopped m) (otherReg s.sr 4) v, s.sr, s.system)
  | .ldcLR5Bank m => some (m, Function.update (s.regsPopped m) (otherReg s.sr 5) v, s.sr, s.system)
  | .ldcLR6Bank m => some (m, Function.update (s.regsPopped m) (otherReg s.sr 6) v, s.sr, s.system)
  | .ldcLR7Bank m => some (m, Function.update (s.regsPopped m) (otherReg s.sr 7) v, s.sr, s.system)
  | .ldsLMach m => some (m, s.regsPopped m, s.sr, { s.system with mach := v })
  | .ldsLMacl m => some (m, s.regsPopped m, s.sr, { s.system with macl := v })
  | .ldsLPr m => some (m, s.regsPopped m, s.sr, { s.system with pr := v })
  | _ => none

end Sys2Proof.Machine

namespace Sys2Proof

/-! ### Which instructions write what (R26, R27, R29 to R34, R43, R44) -/

/-- The instructions that write T (R32). -/
def Instr.writesT : Instr → Bool
  | .addc _ _ | .addv _ _ | .clrt | .cmpEqImm _ | .cmpEq _ _ | .cmpGe _ _ | .cmpGt _ _ | .cmpHi _ _
  | .cmpHs _ _ | .cmpPl _ | .cmpPz _ | .cmpStr _ _ | .div0s _ _ | .div0u | .div1 _ _ | .dt _ | .negc _ _
  | .rotl _ | .rotr _ | .rotcl _ | .rotcr _ | .sett | .shal _ | .shar _ | .shll _ | .shlr _ | .subc _ _
  | .subv _ _ | .tasB _ | .tst _ _ | .tstImm _ | .tstB _ | .ldcSr _ | .ldcLSr _ | .rte => true
  | _ => false

/-- The instructions that write S (R33). -/
def Instr.writesS : Instr → Bool
  | .sets | .clrs | .ldcSr _ | .ldcLSr _ | .rte => true
  | _ => false

/-- The instructions that write M or Q (R34). -/
def Instr.writesMQ : Instr → Bool
  | .div0s _ _ | .div0u | .div1 _ _ | .ldcSr _ | .ldcLSr _ | .rte => true
  | _ => false

/-- The instructions that write MACH or MACL (R26). -/
def Instr.writesMac : Instr → Bool
  | .clrmac | .dmulsL _ _ | .dmuluL _ _ | .macL _ _ | .macW _ _ | .mulL _ _ | .mulsW _ _ | .muluW _ _
  | .ldsMach _ | .ldsMacl _ | .ldsLMach _ | .ldsLMacl _ => true
  | _ => false

/-- The instructions that write PR (R27). -/
def Instr.writesPr : Instr → Bool
  | .bsr _ | .bsrf _ | .jsr _ | .ldsPr _ | .ldsLPr _ => true
  | _ => false

/-- The instructions that write GBR (R29). -/
def Instr.writesGbr : Instr → Bool
  | .ldcGbr _ | .ldcLGbr _ => true
  | _ => false

/-- The instructions that write VBR (R30). -/
def Instr.writesVbr : Instr → Bool
  | .ldcVbr _ | .ldcLVbr _ => true
  | _ => false

/-- The instructions that write SSR or SPC (R43, R44). -/
def Instr.writesSaved : Instr → Bool
  | .ldcSsr _ | .ldcLSsr _ | .ldcSpc _ | .ldcLSpc _ => true
  | _ => false

end Sys2Proof

namespace Sys2Proof.Machine

/-! ### The division step of the manual's reference code (R224) -/

/-- Rn, Q and T after DIV1, as the four-way switch on (old Q, M) of the reference code gives them (R224). `a` is the
dividend after the shift, `top` the bit shifted out, `b` the divisor. -/
def div1Reference (a b : Word) (top q m : Bool) : Word × Bool × Bool :=
  let borrow := decide (a < a - b)
  let carry := decide (a + b < a)
  match q, m with
  | false, false => let q' := if top then !borrow else borrow; (a - b, q', q' == m)
  | false, true => let q' := if top then carry else !carry; (a + b, q', q' == m)
  | true, false => let q' := if top then !carry else carry; (a + b, q', q' == m)
  | true, true => let q' := if top then borrow else !borrow; (a - b, q', q' == m)

end Sys2Proof.Machine
end

