-- ==== Sys2Proof/Certificates/Slice0/Obligations.lean ====
section
/-! DEFINITION. The statements for the provers. Each docstring names the rules of spec/ it formalises; the terms are those of
Safety.lean. -/

open Sys2Proof Sys2Proof.Machine

/-- Decoding the encoding of an instruction gives the instruction back. 30_encoding.md R116, 30_encoding.md R123. -/
def Obligations.DecodeOfEncode : Prop :=
  ∀ i : Instr, decode (encode i) = .ok i

/-- A word that decodes is the encoding of what it decodes to. 30_encoding.md R116, 30_encoding.md R123. -/
def Obligations.EncodeOfDecode : Prop :=
  ∀ (w : Half) (i : Instr), decode w = .ok i → encode i = w

/-- A word is rejected exactly when it stands in the list of undefined code. 30_encoding.md R124. -/
def Obligations.UndefinedWordsAreTheSpecsList : Prop :=
  ∀ a n f l : BitVec 4,
    decode (join a n f l) = .error (.undefinedCode (join a n f l)) ↔ undefinedCode a n f l = true

/-- Words written out in the spec decode to the instructions printed beside them. 30_encoding.md R123,
95_test_vectors.md. -/
def Obligations.SpecWordsDecode : Prop :=
  decode 0x012D#16 = .ok (.movWLoadIdx 2#4 1#4) ∧
  decode 0x801F#16 = .ok (.movBStoreDisp 15#4 1#4) ∧
  decode 0x73FE#16 = .ok (.addImm 0xFE#8 3#4) ∧
  decode 0x410F#16 = .ok (.macW 0#4 1#4) ∧
  decode 0xCD80#16 = .ok (.andB 0x80#8) ∧
  decode 0x421C#16 = .ok (.shad 1#4 2#4) ∧
  decode 0xA7FF#16 = .ok (.bra 0x7FF#12) ∧
  decode 0x4FA3#16 = .ok (.stcLR2Bank 15#4) ∧
  decode 0xC3FF#16 = .ok (.trapa 0xFF#8)

/-- SR selects the bank of R0 to R7, and the bank that LDC and STC reach. R22, R23. -/
def Obligations.BanksSelectRegisters : Prop :=
  ∀ (s : State) (j : Fin 8) (v : Word),
    let low : RegNum := BitVec.ofNat 4 j.val
    let high : RegNum := BitVec.ofNat 4 (8 + j.val)
    let own : PhysReg := if s.sr.getLsbD 30 = true ∧ s.sr.getLsbD 29 = true then .bank1 j else .bank0 j
    let away : PhysReg := if s.sr.getLsbD 29 = true then .bank0 j else .bank1 j
    s.reg high = s.gpr.read (.common j) ∧ s.reg low = s.gpr.read own ∧ s.other j = s.gpr.read away ∧
    (s.setReg high v).gpr.read = Function.update s.gpr.read (.common j) v ∧
    (s.setReg low v).gpr.read = Function.update s.gpr.read own v ∧
    (s.setOther j v).gpr.read = Function.update s.gpr.read away v

/-- A read assembles bytes in the byte order, of a device it is an event; control registers read whole; accesses are
aligned and mapped. 20_memory.md R73, 20_memory.md R75, 20_memory.md R78, 20_memory.md R79, 20_memory.md R82,
20_memory.md R86, 20_memory.md R96, 10_state.md R52. What log entries 2, 5, 17, 39 say is the model's choice. -/
def Obligations.ReadsAndAlignment : Prop :=
  (∀ (s : State) (a : Word), s.isDevice a = false →
    let b : Nat → Nat := fun k => (s.readByte (a + BitVec.ofNat 32 k)).toNat
    (s.memRead a .byte).toNat = b 0 ∧
    (s.memRead a .word).toNat = (if s.littleEndian then b 0 + 2 ^ 8 * b 1 else 2 ^ 8 * b 0 + b 1) ∧
    (s.memRead a .long).toNat =
      (if s.littleEndian then b 0 + 2 ^ 8 * b 1 + 2 ^ 16 * b 2 + 2 ^ 24 * b 3
       else 2 ^ 24 * b 0 + 2 ^ 16 * b 1 + 2 ^ 8 * b 2 + b 3) ∧
    ∀ z, s.afterRead a z = s) ∧
  (∀ (s : State) (a : Word) (z : Size), s.isDevice a = true →
    (∀ (v : Word) (rest : List Word), s.deviceIn = v :: rest →
      (s.memRead a z).toNat = v.toNat % 2 ^ (8 * z.bytes) ∧
      s.afterRead a z = { s with deviceIn := rest, deviceOut := s.deviceOut ++ [.read a z (s.memRead a z)] }) ∧
    (s.deviceIn = [] →
      (s.memRead a z).toNat = (Config.freeWord s.freeCount).toNat % 2 ^ (8 * z.bytes) ∧
      s.afterRead a z =
        { s with deviceOut := s.deviceOut ++ [.read a z (s.memRead a z)], freeCount := s.freeCount + 1 })) ∧
  (∀ v : Word, Size.byte.extend v = (v.setWidth 8).signExtend 32 ∧ Size.word.extend v = (v.setWidth 16).signExtend 32 ∧
    Size.long.extend v = v) ∧
  (∀ (s : State) (a : Word) (z : Size) (r : CtrlReg), s.ctrlAt a z r → s.memRead a z = r.get s) ∧
  (∀ s : State, s.platform = Platform.family →
    s.memRead 0xFFFFFFF0#32 .long = s.pteh ∧ s.memRead 0xFFFFFFF4#32 .long = s.ptel ∧
    s.memRead 0xFFFFFFE0#32 .long = s.mmucr ∧ s.memRead 0xFFFFFFD8#32 .long = s.intevt ∧
    (s.memRead 0xFFFFFFD0#32 .long).toNat = 4 * s.tra.toNat ∧
    (s.memRead 0xFFFFFFD4#32 .long).toNat = s.expevt.toNat ∧
    (s.memRead 0xFFFFFF82#32 .byte).toNat = s.stbcr.toNat) ∧
  (∀ (s : State) (k : AccessKind) (a : Word) (z : Size),
    (s.accessOk k a z = true → a.toNat % z.bytes = 0 ∧
      ∀ r ∈ s.memMap, r.kind = .unmapped → a.toNat + z.bytes ≤ r.base ∨ r.base + r.bytes ≤ a.toNat) ∧
    (s.memMap = [] → (s.accessOk k a z = true ↔ a.toNat % z.bytes = 0)))

/-- A store changes exactly its own bytes, and they read back as what was stored. 20_memory.md R76, 20_memory.md R88,
20_memory.md R96, 10_state.md R52. What log entries 15, 17 say is the model's choice. -/
def Obligations.StoresReadBack : Prop :=
  ∀ (s : State) (a : Word) (z : Size) (v : Word), aligned a z = true →
    StoreEffect s (s.memWrite a z v) a z v ∧ (s.memWrite a z v).gpr = s.gpr ∧ (s.memWrite a z v).sr = s.sr ∧
    (s.memWrite a z v).system = s.system ∧ (s.memWrite a z v).pc = s.pc ∧ (s.memWrite a z v).pending = s.pending

/-- A step runs the instruction that the word at pc decodes to. 00_scope.md R18, 60_exceptions.md R447. -/
def Obligations.StepRunsTheDecodedInstruction : Prop :=
  (∀ (s : State) (w : Half) (i : Instr), s.input.reset = none →
    (∀ r, s.input.request = some r → s.afterInput.accepts r = false) → s.mode = .running →
    s.afterInput.fetch = some w → decode w = .ok i → step s = exec i s.afterInput) ∧
  (∀ s : State, s.inputs = [] → s.afterInput = s ∧ s.input.reset = none ∧ s.input.request = none)

/-- Undefined code raises the illegal instruction exception, in a delay slot the slot form. R125. -/
def Obligations.StepRaisesOnUndefinedCode : Prop :=
  ∀ (s : State) (w : Half) (e : DecodeError), s.input.reset = none →
    (∀ r, s.input.request = some r → s.afterInput.accepts r = false) → s.mode = .running →
    s.afterInput.fetch = some w → decode w = .error e →
    step s = .next (s.afterInput.raise (if s.pending = none then .illegal else .slotIllegal))

/-- Fetching at an odd address raises AddressError at that step. 20_memory.md R77, 10_state.md R41. -/
def Obligations.StepRaisesOnBadFetch : Prop :=
  ∀ s : State, s.input.reset = none →
    (∀ r, s.input.request = some r → s.afterInput.accepts r = false) → s.mode = .running →
    if s.pc.toNat % 2 = 1 ∨ s.afterInput.forbids .fetch s.pc .word = true then
      step s = .next (s.afterInput.raise (.addressError .fetch))
    else ∃ w, s.afterInput.fetch = some w ∧
      w.toNat = (if s.littleEndian then (s.afterInput.readByte s.pc).toNat + 256 * (s.afterInput.readByte (s.pc + 1#32)).toNat
        else 256 * (s.afterInput.readByte s.pc).toNat + (s.afterInput.readByte (s.pc + 1#32)).toNat)

/-- A reset that the host asserts resets the machine in every state. 70_reset_and_hazards.md R480,
70_reset_and_hazards.md R482, 70_reset_and_hazards.md R483, 92_eei_decisions.md D6, 00_scope.md R8. What log
entries 2, 3, 4, 5, 7 say is the model's choice. -/
def Obligations.ResetInputResets : Prop :=
  ∀ (s : State) (kind : ResetKind), s.input.reset = some kind →
    ∃ t, step s = .next t ∧ t.sr &&& 0x8FFFFCFC#32 = 0x000000F0#32 ∧ t.sr.getLsbD 30 = s.platform.resetMd ∧
      t.sr.getLsbD 29 = s.platform.resetRb ∧ t.sr.getLsbD 28 = s.platform.resetBl ∧ t.vbr = 0#32 ∧
      t.pc = 0xA0000000#32 ∧ t.pending = none ∧ t.mode = .running ∧ t.md5 = s.input.md5.getD s.md5 ∧
      t.littleEndian = t.md5 ∧
      t.expevt = (match kind with | .powerOn => s.platform.powerOnCode | .manual => s.platform.manualCode) ∧
      t.mmucr.getLsbD s.platform.atBit.val = false ∧ t.stbcr.getLsbD s.platform.stbyBit.val = false ∧ t.mem = s.mem ∧
      (kind = .manual → t.gpr = s.gpr ∧ t.system = { s.system with vbr := 0#32 } ∧
        t.sr &&& 0x00000303#32 = s.sr &&& 0x00000303#32) ∧
      (s.platform = Platform.family → t.sr &&& 0x70000000#32 = 0x70000000#32 ∧
        t.expevt = (match kind with | .powerOn => 0x000#12 | .manual => 0x020#12))

/-- When a request is accepted, and what accepting it leaves. 60_exceptions.md R450, 60_exceptions.md R452,
60_exceptions.md R453, 60_exceptions.md R470, 92_eei_decisions.md D15, 00_scope.md R8. What log entries 3, 13 say
is the model's choice. -/
def Obligations.InterruptAcceptance : Prop :=
  ∀ (s : State) (r : IntReq), s.input.reset = none → s.input.request = some r → s.mem = s.afterInput.mem ∧
    (if s.pending = none ∧ (s.sr.extractLsb' 4 4).toNat < r.level.val ∧
        (s.mode = .running → s.sr.getLsbD 28 = false) then
      ∃ t, step s = .next t ∧ t.ssr = s.sr ∧ t.spc = s.pc ∧ t.sr = s.sr ||| 0x70000000#32 ∧
        t.mapped = (s.platform.interruptRegister.set r.code s).mapped ∧
        t.pc = s.vbr + s.platform.interruptOffset ∧ t.pending = none ∧ t.mode = .running ∧
        (s.platform.interruptRegister = .intevt → t.mapped = { s.mapped with intevt := r.code }) ∧
        (s.platform = Platform.family → t.intevt = r.code ∧ t.pc = s.vbr + 0x600#32 ∧ t.expevt = s.expevt ∧
          t.tra = s.tra) ∧
        t.gpr = s.gpr ∧ t.mem = s.mem ∧ t.tlb = s.tlb ∧ t.platform = s.platform ∧
        t.system = { s.system with ssr := s.sr, spc := s.pc }
     else step s = runOrWait s.afterInput)

/-- No interrupt is accepted between a delayed branch and its slot instruction; a reset is. R304. -/
def Obligations.NoInterruptBeforeTheSlot : Prop :=
  ∀ (s : State) (target : Word), s.pending = some target →
    (s.input.reset = none → step s = runOrWait s.afterInput) ∧
    (∀ r, s.input.reset = some r → step s = .next (s.afterInput.resetBy r))

/-- In sleep or standby a step without reset or accepted request changes nothing. 60_exceptions.md R470,
92_eei_decisions.md D16. -/
def Obligations.SleepingStepWaits : Prop :=
  ∀ s : State, s.mode ≠ .running → s.input.reset = none →
    (∀ r, s.input.request = some r → s.afterInput.accepts r = false) →
    ∃ t, step s = .next t ∧ t.gpr = s.gpr ∧ t.sr = s.sr ∧ t.system = s.system ∧ t.mapped = s.mapped ∧ t.mem = s.mem ∧
      t.tlb = s.tlb ∧ t.mode = s.mode ∧ t.pc = s.pc ∧ t.pending = s.pending

/-- What taking a general exception with BL = 0 saves and where it goes. 60_exceptions.md R445, 60_exceptions.md R446,
60_exceptions.md R441, 20_memory.md R77, 92_eei_decisions.md D3, 00_scope.md R8. What log entries 3, 10 say is the
model's choice. -/
def Obligations.GeneralExceptionEntry : Prop :=
  ∀ (s : State) (e : Exc), s.sr.getLsbD 28 = false →
    let t := s.raise e
    t.ssr = s.sr ∧
    t.spc = (match e with
      | .trapa _ => s.pc + 2#32
      | _ => if s.pending = none then s.pc else s.pc - 2#32) ∧
    t.sr = s.sr ||| 0x70000000#32 ∧
    t.expevt = (match e with
      | .addressError .write => s.platform.writeError.code
      | .addressError _ => s.platform.readError.code
      | .illegal => s.platform.illegal.code
      | .slotIllegal => s.platform.slotIllegal.code
      | .trapa _ => 0x160#12) ∧
    t.pc = s.vbr + (match e with
      | .addressError .write => s.platform.writeError.offset
      | .addressError .read => s.platform.readError.offset
      | .addressError .fetch => s.platform.fetchOffset
      | .illegal => s.platform.illegal.offset
      | .slotIllegal => s.platform.slotIllegal.offset
      | .trapa _ => 0x100#32) ∧
    (s.platform = Platform.family → t.pc = s.vbr + 0x100#32 ∧
      t.expevt = (match e with
        | .addressError .write => 0x100#12
        | .addressError _ => 0x0E0#12
        | .illegal => 0x180#12
        | .slotIllegal => 0x1A0#12
        | .trapa _ => 0x160#12)) ∧
    t.tra = (match e with | .trapa imm => imm | _ => s.tra) ∧
    t.pending = none ∧ t.mode = .running ∧ t.gpr = s.gpr ∧
    t.system = { s.system with ssr := s.sr, spc := t.spc } ∧
    t.mapped = { s.mapped with expevt := t.expevt, tra := t.tra } ∧
    t.surroundings = { s.surroundings with mode := .running } ∧ t.mem = s.mem

/-- A general exception with BL = 1 is a manual reset. 60_exceptions.md R451, 70_reset_and_hazards.md R480,
70_reset_and_hazards.md R482, 92_eei_decisions.md D11, 00_scope.md R8. What log entries 3, 4, 5, 9 say is the
model's choice. -/
def Obligations.BlockedExceptionResets : Prop :=
  ∀ (s : State) (e : Exc), s.sr.getLsbD 28 = true →
    let t := s.raise e
    t.sr &&& 0x8FFFFFFF#32 = 0x000000F0#32 ||| (s.sr &&& 0x00000303#32) ∧ t.sr.getLsbD 30 = s.platform.resetMd ∧
    t.sr.getLsbD 29 = s.platform.resetRb ∧ t.sr.getLsbD 28 = s.platform.resetBl ∧
    t.expevt = s.platform.manualCode ∧ t.pc = 0xA0000000#32 ∧
    (s.platform = Platform.family →
      t.sr = 0x700000F0#32 ||| (s.sr &&& 0x00000303#32) ∧ t.expevt = 0x020#12) ∧
    t.pending = none ∧ t.mode = .running ∧ t.gpr = s.gpr ∧ t.system = { s.system with vbr := 0#32 } ∧
    t.tra = s.tra ∧ t.mem = s.mem ∧
    t.surroundings = { s.surroundings with littleEndian := s.md5, mode := .running }

/-- The 51 privileged instructions raise an illegal instruction exception in user mode. 45_system_control.md R331,
92_eei_decisions.md D23. What log entry 30 says is the model's choice. -/
def Obligations.PrivilegedInstructionsTrapInUserMode : Prop :=
  ∀ (i : Instr) (s : State), i.isPrivileged = true → s.sr.getLsbD 30 = false →
    Raises i s (if s.pending = none then .illegal else .slotIllegal)

/-- The thirteen instructions that rewrite the program counter are illegal in a delay slot. R303. -/
def Obligations.SlotIllegalInstructions : Prop :=
  (∀ (i : Instr) (s : State) (target : Word), i.isSlotIllegal = true → s.pending = some target →
    Raises i s .slotIllegal) ∧
  (∀ (s : State) (disp : BitVec 8), s.pending = none → s.sr.getLsbD 0 = true →
    Completes (.bfS disp) s s.gpr.read s.sr s.system) ∧
  (∀ (s : State) (disp : BitVec 8), s.pending = none → s.sr.getLsbD 0 = false →
    Completes (.btS disp) s s.gpr.read s.sr s.system)

/-- MOV, MOV #imm, MOVT, SWAP.B, SWAP.W and XTRCT put their result in Rn and change nothing else. R154, R155, R189,
R190, R191, R192. -/
def Obligations.RegisterTransfers : Prop :=
  ∀ (s : State) (m n : RegNum) (imm : BitVec 8),
    Completes (.mov m n) s (s.regsWith n (s.reg m)) s.sr s.system ∧
    Completes (.movImm imm n) s (s.regsWith n (imm.signExtend 32)) s.sr s.system ∧
    Completes (.movt n) s (s.regsWith n (s.sr &&& 1#32)) s.sr s.system ∧
    Completes (.swapB m n) s
      (s.regsWith n ((s.reg m).extractLsb' 16 16 ++ (s.reg m).extractLsb' 0 8 ++ (s.reg m).extractLsb' 8 8)) s.sr
      s.system ∧
    Completes (.swapW m n) s (s.regsWith n ((s.reg m).extractLsb' 0 16 ++ (s.reg m).extractLsb' 16 16)) s.sr
      s.system ∧
    Completes (.xtrct m n) s (s.regsWith n ((s.reg m).extractLsb' 0 16 ++ (s.reg n).extractLsb' 16 16)) s.sr
      s.system

/-- MOVA puts the masked PC plus four times the displacement in R0; in a slot PC is the target plus 2. R188, R42. -/
def Obligations.MovaAddsToTheMaskedPc : Prop :=
  ∀ (s : State) (disp : BitVec 8),
    (s.pending = none → s.pcOp = s.pc + 4#32) ∧
    (∀ target, s.pending = some target → s.pcOp = target + 2#32) ∧
    (∀ n : RegNum, s.pcWord disp = s.pcOp + BitVec.ofNat 32 (2 * disp.toNat) ∧
      s.pcLong disp = (s.pcOp &&& 0xFFFFFFFC#32) + BitVec.ofNat 32 (4 * disp.toNat) ∧
      exec (.movWLoadPc disp n) s = load .word (s.pcWord disp) n s ∧
      exec (.movLLoadPc disp n) s = load .long (s.pcLong disp) n s) ∧
    Completes (.mova disp) s (s.regsWith 0#4 ((s.pcOp &&& 0xFFFFFFFC#32) + BitVec.ofNat 32 (4 * disp.toNat))) s.sr
      s.system

/-- The loads through a register put the extended datum in their destination, or raise AddressError. R161, R162, R163,
R173, R174, R175, R179, R180, R181. -/
def Obligations.Loads : Prop :=
  (∀ (s : State) (i : Instr) (z : Size) (a : Word) (n : RegNum), loadForm s i = some (z, a, n) →
    if s.accessOk .read a z then CompletesRead i s a z (s.regsWith n (z.extend (s.memRead a z))) s.sr s.system
    else Raises i s (.addressError .read)) ∧
  (∀ (s : State) (m : RegNum) (disp : BitVec 4) (z : Size),
    s.dispReg m disp z = s.reg m + BitVec.ofNat 32 (disp.toNat * z.bytes) ∧ s.indexed m = s.reg m + s.reg 0#4)

/-- The loads relative to PC and GBR put the extended datum in their destination, or raise AddressError. R156, R157,
R185, R186, R187. -/
def Obligations.BaseRelativeLoads : Prop :=
  (∀ (s : State) (i : Instr) (z : Size) (a : Word) (n : RegNum), baseLoadForm s i = some (z, a, n) →
    if s.accessOk .read a z then CompletesRead i s a z (s.regsWith n (z.extend (s.memRead a z))) s.sr s.system
    else Raises i s (.addressError .read)) ∧
  (∀ (s : State) (disp : BitVec 8) (z : Size),
    s.dispGbr disp z = s.gbr + BitVec.ofNat 32 (disp.toNat * z.bytes) ∧
    s.pcWord disp = s.pcOp + BitVec.ofNat 32 (disp.toNat * 2) ∧
    s.pcLong disp = (s.pcOp &&& 0xFFFFFFFC#32) + BitVec.ofNat 32 (disp.toNat * 4))

/-- The loads with post-increment; with one register for both the loaded value stays. R167, R168, R169. -/
def Obligations.PostIncrementLoads : Prop :=
  ∀ (s : State) (i : Instr) (z : Size) (m n : RegNum), postIncForm i = some (z, m, n) →
    if s.accessOk .read (s.reg m) z then
      CompletesRead i s (s.reg m) z
        (if n = m then s.regsWith n (z.extend (s.memRead (s.reg m) z))
         else Function.update (s.regsWith n (z.extend (s.memRead (s.reg m) z))) (physReg s.sr m)
          (s.reg m + BitVec.ofNat 32 z.bytes)) s.sr s.system
    else Raises i s (.addressError .read)

/-- The stores write the low bits of their source at their address and change nothing else. 40_data_transfer.md R158 to
R160, 40_data_transfer.md R170 to R172, 40_data_transfer.md R176 to R178, 40_data_transfer.md R182 to R184,
20_memory.md R96, 10_state.md R52. What log entries 15, 17 say is the model's choice. -/
def Obligations.Stores : Prop :=
  ∀ (s : State) (i : Instr) (z : Size) (a : Word) (m : RegNum), storeForm s i = some (z, a, m) →
    if s.accessOk .write a z then CompletesStore i s s.gpr.read s.sr a z (s.reg m)
    else Raises i s (.addressError .write)

/-- The stores with pre-decrement store the old source below Rn and write the address back. 40_data_transfer.md R164 to
R166, 20_memory.md R96, 10_state.md R52. What log entries 15, 17 say is the model's choice. -/
def Obligations.PreDecrementStores : Prop :=
  ∀ (s : State) (i : Instr) (z : Size) (m n : RegNum), preDecForm i = some (z, m, n) →
    s.preDec n z = s.reg n - BitVec.ofNat 32 z.bytes ∧
    if s.accessOk .write (s.preDec n z) z then
      CompletesStore i s (s.regsWith n (s.preDec n z)) s.sr (s.preDec n z) z (s.reg m)
    else Raises i s (.addressError .write)

/-- PREF has no effect; SLEEP and LDTLB touch only the processing state and the TLB. 40_data_transfer.md R196,
45_system_control.md R372, 45_system_control.md R370, 92_eei_decisions.md D16, 92_eei_decisions.md D18, 10_state.md
R53, 00_scope.md R8. What log entries 2, 14, 19 say is the model's choice. -/
def Obligations.PrefSleepLdtlb : Prop :=
  ∀ s : State, (∀ n : RegNum, Completes (.pref n) s s.gpr.read s.sr s.system) ∧
    (s.sr.getLsbD 30 = true →
      (∃ t, exec .sleep s = .next t ∧ t.mode = (if s.stbcr.getLsbD s.platform.stbyBit.val then .standby else .sleeping) ∧
        t.gpr = s.gpr ∧ t.sr = s.sr ∧ t.system = s.system ∧ t.mapped = s.mapped ∧ t.mem = s.mem ∧
        t.surroundings = { s.surroundings with mode := t.mode } ∧ Advanced s t) ∧
      (∃ t, exec .ldtlb s = .next t ∧ t.gpr = s.gpr ∧ t.sr = s.sr ∧ t.system = s.system ∧ t.mapped = s.mapped ∧
        t.mem = s.mem ∧ t.surroundings = { s.surroundings with tlb := t.tlb } ∧ Advanced s t ∧
        (Tlb.wf s.tlb = true → ∀ index way : Nat,
          Tlb.find t.tlb index way =
            if index = Config.tlbIndex s.pteh % s.platform.tlbEntries ∧
                way = (s.mmucr.extractLsb' s.platform.rcBit.val 2).toNat ∧
                index < s.platform.tlbEntries ∧ way < s.platform.tlbWays then
              some { index := index, way := way, tag := s.pteh, data := s.ptel }
            else Tlb.find s.tlb index way))) ∧
    Platform.family.rcBit = 4 ∧ Platform.family.stbyBit = 7 ∧ Platform.family.tlbWays = 4 ∧
    (∀ s : State, s.platform = Platform.family → s.tlbHasEntry = true)

/-- ADD, SUB, NEG, EXTS and EXTU put their result in Rn and change no flag. R211, R212, R231, R232, R233, R234, R241,
R243. -/
def Obligations.AddSubtractExtend : Prop :=
  ∀ (s : State) (m n : RegNum) (imm : BitVec 8),
    let a := s.reg n
    let b := s.reg m
    Completes (.add m n) s (s.regsWith n (BitVec.ofNat 32 (a.toNat + b.toNat))) s.sr s.system ∧
    Completes (.addImm imm n) s (s.regsWith n (BitVec.ofInt 32 (a.toInt + imm.toInt))) s.sr s.system ∧
    Completes (.sub m n) s (s.regsWith n (BitVec.ofInt 32 (a.toInt - b.toInt))) s.sr s.system ∧
    Completes (.neg m n) s (s.regsWith n (BitVec.ofInt 32 (-b.toInt))) s.sr s.system ∧
    Completes (.extsB m n) s (s.regsWith n ((b.setWidth 8).signExtend 32)) s.sr s.system ∧
    Completes (.extsW m n) s (s.regsWith n ((b.setWidth 16).signExtend 32)) s.sr s.system ∧
    Completes (.extuB m n) s (s.regsWith n (BitVec.ofNat 32 (b.toNat % 2 ^ 8))) s.sr s.system ∧
    Completes (.extuW m n) s (s.regsWith n (BitVec.ofNat 32 (b.toNat % 2 ^ 16))) s.sr s.system

/-- ADDC, SUBC and NEGC compute with T and leave the carry or borrow in T. R213, R242, R244. -/
def Obligations.CarryAndBorrow : Prop :=
  ∀ (s : State) (m n : RegNum),
    let a : Int := (s.reg n).toNat
    let b : Int := (s.reg m).toNat
    let t : Int := if s.sr.getLsbD 0 then 1 else 0
    Completes (.addc m n) s (s.regsWith n (BitVec.ofInt 32 (a + b + t))) (srWithT s.sr (decide (2 ^ 32 ≤ a + b + t)))
      s.system ∧
    Completes (.subc m n) s (s.regsWith n (BitVec.ofInt 32 (a - b - t))) (srWithT s.sr (decide (a - b - t < 0)))
      s.system ∧
    Completes (.negc m n) s (s.regsWith n (BitVec.ofInt 32 (0 - b - t))) (srWithT s.sr (decide (0 - b - t < 0)))
      s.system

/-- ADDV and SUBV leave signed overflow in T, DT whether the count reached 0. R214, R230, R245. -/
def Obligations.OverflowAndCount : Prop :=
  ∀ (s : State) (m n : RegNum),
    let a := (s.reg n).toInt
    let b := (s.reg m).toInt
    Completes (.addv m n) s (s.regsWith n (BitVec.ofInt 32 (a + b)))
      (srWithT s.sr (decide (a + b > 2 ^ 31 - 1 ∨ a + b < -2 ^ 31))) s.system ∧
    Completes (.subv m n) s (s.regsWith n (BitVec.ofInt 32 (a - b)))
      (srWithT s.sr (decide (a - b > 2 ^ 31 - 1 ∨ a - b < -2 ^ 31))) s.system ∧
    Completes (.dt n) s (s.regsWith n (BitVec.ofInt 32 (a - 1))) (srWithT s.sr (decide (s.reg n = 1#32))) s.system

/-- The nine comparisons set T by their condition and change nothing else. R215, R216, R217, R218, R219, R220, R221,
R222, R223. -/
def Obligations.Comparisons : Prop :=
  ∀ (s : State) (m n : RegNum) (imm : BitVec 8),
    let sets := fun (i : Instr) (c : Bool) => Completes i s s.gpr.read (srWithT s.sr c) s.system
    sets (.cmpEqImm imm) (decide ((s.reg 0#4).toInt = imm.toInt)) ∧
    sets (.cmpEq m n) (decide (s.reg n = s.reg m)) ∧
    sets (.cmpHs m n) (decide ((s.reg n).toNat ≥ (s.reg m).toNat)) ∧
    sets (.cmpGe m n) (decide ((s.reg n).toInt ≥ (s.reg m).toInt)) ∧
    sets (.cmpHi m n) (decide ((s.reg n).toNat > (s.reg m).toNat)) ∧
    sets (.cmpGt m n) (decide ((s.reg n).toInt > (s.reg m).toInt)) ∧
    sets (.cmpPz n) (!(s.reg n).getLsbD 31) ∧
    sets (.cmpPl n) (decide ((s.reg n).toInt > 0)) ∧
    sets (.cmpStr m n) (decide (∃ k : Fin 4, byteAt (s.reg n) k.val = byteAt (s.reg m) k.val))

/-- DIV0S and DIV0U set Q, M and T for a division. R225, R226. -/
def Obligations.DivisionInitialisation : Prop :=
  ∀ (s : State) (m n : RegNum),
    Completes (.div0s m n) s s.gpr.read
      (srWithMQT s.sr (decide ((s.reg m).toInt < 0)) (decide ((s.reg n).toInt < 0))
        (decide ((s.reg m).toInt < 0 ↔ ¬ (s.reg n).toInt < 0))) s.system ∧
    Completes .div0u s s.gpr.read (s.sr &&& 0xFFFFFCFE#32) s.system

/-- DIV1 is the four-way switch of the manual's reference code. 41_arithmetic.md R224. -/
def Obligations.DivisionStepIsTheReferenceSwitch : Prop :=
  ∀ (s : State) (m n : RegNum),
    let a := ((s.reg n) <<< 1) ||| (s.sr &&& 1#32)
    let b := if m = n then a else s.reg m
    let r := div1Reference a b ((s.reg n).getLsbD 31) (s.sr.getLsbD 8) (s.sr.getLsbD 9)
    Completes (.div1 m n) s (s.regsWith n r.1) (srWithQT s.sr r.2.1 r.2.2) s.system

/-- The multiplications leave their exact product, or its low 32 bits, in MACH and MACL. R228, R229, R238, R239, R240. -/
def Obligations.Multiplications : Prop :=
  ∀ (s : State) (m n : RegNum),
    let both := fun (i : Instr) (p : BitVec 64) =>
      Completes i s s.gpr.read s.sr { s.system with mach := p.extractLsb' 32 32, macl := p.extractLsb' 0 32 }
    let low := fun (i : Instr) (p : Word) => Completes i s s.gpr.read s.sr { s.system with macl := p }
    both (.dmulsL m n) (BitVec.ofInt 64 ((s.reg n).toInt * (s.reg m).toInt)) ∧
    both (.dmuluL m n) (BitVec.ofNat 64 ((s.reg n).toNat * (s.reg m).toNat)) ∧
    low (.mulL m n) (BitVec.ofInt 32 ((s.reg n).toInt * (s.reg m).toInt)) ∧
    low (.mulsW m n) (BitVec.ofInt 32 (((s.reg n).setWidth 16).toInt * ((s.reg m).setWidth 16).toInt)) ∧
    low (.muluW m n) (BitVec.ofNat 32 (((s.reg n).toNat % 2 ^ 16) * ((s.reg m).toNat % 2 ^ 16)))

/-- MAC.L and MAC.W read two operands, advance both registers and accumulate, saturating when S = 1. 41_arithmetic.md
R235, 41_arithmetic.md R236, 41_arithmetic.md R237, 92_eei_decisions.md D14, 92_eei_decisions.md D28, 20_memory.md
R96. What log entries 11, 17, 23, 24 say is the model's choice. -/
def Obligations.MultiplyAccumulate : Prop :=
  ∀ (s : State) (m n : RegNum) (z : Size) (i : Instr),
    (i = .macL m n ∧ z = .long) ∨ (i = .macW m n ∧ z = .word) →
    let step4 := BitVec.ofNat 32 z.bytes
    let an := s.reg n
    let am := if m = n then an + step4 else s.reg m
    let s' := s.afterRead an z
    let p : Int := match z with
      | .long => (s.memRead an z).toInt * (s'.memRead am z).toInt
      | _ => ((s.memRead an z).setWidth 16).toInt * ((s'.memRead am z).setWidth 16).toInt
    let wide : BitVec 64 := BitVec.ofInt 64 ((s.mach ++ s.macl : BitVec 64).toInt + p)
    let sum48 : Int := ((s.mach ++ s.macl : BitVec 64).setWidth 48).toInt + p
    let sum32 : Int := s.macl.toInt + p
    let acc : BitVec 64 :=
      if s.sr.getLsbD 1 = false then wide
      else match z with
        | .long => BitVec.ofInt 64 (if sum48 > 2 ^ 47 - 1 then 2 ^ 47 - 1 else if sum48 < -2 ^ 47 then -2 ^ 47 else sum48)
        | _ =>
          if sum32 > 2 ^ 31 - 1 then (s.mach ||| 1#32) ++ 0x7FFFFFFF#32
          else if sum32 < -2 ^ 31 then (s.mach ||| 1#32) ++ 0x80000000#32
          else s.mach ++ BitVec.ofInt 32 sum32
    if s.accessOk .read an z = true ∧ s.accessOk .read am z = true then
      ∃ t, exec i s = .next t ∧ Advanced s t ∧
        Leaves (s'.afterRead am z) t (Function.update (s.regsWith n (an + step4)) (physReg s.sr m) (am + step4)) s.sr
          { s.system with mach := acc.extractLsb' 32 32, macl := acc.extractLsb' 0 32 }
    else Raises i s (.addressError .read)

/-- AND, OR, XOR, NOT and TST on registers and immediates, bit by bit. R261, R262, R264, R265, R266, R269, R270, R272,
R273. -/
def Obligations.LogicOfRegisters : Prop :=
  ∀ (s : State) (m n : RegNum) (imm : BitVec 8),
    let puts := fun (i : Instr) (d : RegNum) (f : Nat → Bool) =>
      ∃ v : Word, (∀ k < 32, v.getLsbD k = f k) ∧ Completes i s (s.regsWith d v) s.sr s.system
    let tests := fun (i : Instr) (c : Bool) => Completes i s s.gpr.read (srWithT s.sr c) s.system
    puts (.and m n) n (fun k => (s.reg n).getLsbD k && (s.reg m).getLsbD k) ∧
    puts (.or m n) n (fun k => (s.reg n).getLsbD k || (s.reg m).getLsbD k) ∧
    puts (.xor m n) n (fun k => (s.reg n).getLsbD k ^^ (s.reg m).getLsbD k) ∧
    puts (.not m n) n (fun k => !(s.reg m).getLsbD k) ∧
    puts (.andImm imm) 0#4 (fun k => (s.reg 0#4).getLsbD k && imm.getLsbD k) ∧
    puts (.orImm imm) 0#4 (fun k => (s.reg 0#4).getLsbD k || imm.getLsbD k) ∧
    puts (.xorImm imm) 0#4 (fun k => (s.reg 0#4).getLsbD k ^^ imm.getLsbD k) ∧
    tests (.tst m n) (decide (s.reg n &&& s.reg m = 0#32)) ∧
    tests (.tstImm imm) (decide ((s.reg 0#4).setWidth 8 &&& imm = 0#8))

/-- AND.B, OR.B and XOR.B change the byte at GBR + R0; TST.B sets T by it. 42_logic.md R260, 42_logic.md R263,
42_logic.md R267, 42_logic.md R271, 42_logic.md R274, 20_memory.md R96, 10_state.md R52. What log entries 15, 17
say is the model's choice. -/
def Obligations.LogicOfMemory : Prop :=
  (∀ s : State, s.indexedGbr = s.gbr + s.reg 0#4) ∧
  (∀ (s : State) (i : Instr) (f : Byte → Byte), byteLogicForm i = some f →
    if s.accessOk .read s.indexedGbr .byte = false then Raises i s (.addressError .read)
    else if s.accessOk .write s.indexedGbr .byte = false then Raises i s (.addressError .write)
    else CompletesUpdate i s s.sr s.indexedGbr (f ((s.memRead s.indexedGbr .byte).setWidth 8))) ∧
  (∀ (s : State) (imm : BitVec 8),
    if s.accessOk .read s.indexedGbr .byte = false then Raises (.tstB imm) s (.addressError .read)
    else CompletesRead (.tstB imm) s s.indexedGbr .byte s.gpr.read
      (srWithT s.sr (decide ((s.memRead s.indexedGbr .byte).setWidth 8 &&& imm = 0#8))) s.system)

/-- TAS.B reports in T whether the byte was 0 and sets its bit 7, in one step. 42_logic.md R260, 42_logic.md R268,
92_eei_decisions.md D25, 20_memory.md R96, 10_state.md R52. What log entries 15, 17 say is the model's choice. -/
def Obligations.TestAndSet : Prop :=
  ∀ (s : State) (n : RegNum),
    if s.accessOk .read (s.reg n) .byte = false then Raises (.tasB n) s (.addressError .read)
    else if s.accessOk .write (s.reg n) .byte = false then Raises (.tasB n) s (.addressError .write)
    else CompletesUpdate (.tasB n) s (srWithT s.sr (decide ((s.memRead (s.reg n) .byte).setWidth 8 = 0#8))) (s.reg n)
      ((s.memRead (s.reg n) .byte).setWidth 8 ||| 0x80#8)

/-- The one-bit rotates and shifts move every bit by one and leave the bit shifted out in T. R281, R282, R283, R284,
R286, R287, R289, R290. -/
def Obligations.OneBitShifts : Prop :=
  ∀ (s : State) (n : RegNum),
    let v := s.reg n
    let old := s.sr.getLsbD 0
    let left := fun (i : Instr) (enter : Bool) =>
      ∃ r : Word, (∀ k < 32, r.getLsbD k = if k = 0 then enter else v.getLsbD (k - 1)) ∧
        Completes i s (s.regsWith n r) (srWithT s.sr (v.getLsbD 31)) s.system
    let right := fun (i : Instr) (enter : Bool) =>
      ∃ r : Word, (∀ k < 32, r.getLsbD k = if k = 31 then enter else v.getLsbD (k + 1)) ∧
        Completes i s (s.regsWith n r) (srWithT s.sr (v.getLsbD 0)) s.system
    left (.rotl n) (v.getLsbD 31) ∧ right (.rotr n) (v.getLsbD 0) ∧ left (.rotcl n) old ∧ right (.rotcr n) old ∧
    left (.shal n) false ∧ right (.shar n) (v.getLsbD 31) ∧ left (.shll n) false ∧ right (.shlr n) false

/-- SHLL2, SHLL8, SHLL16 and SHLR2, SHLR8, SHLR16 multiply or divide by a power of two and leave T. R291, R292, R293,
R294, R295, R296. -/
def Obligations.FixedShifts : Prop :=
  ∀ (s : State) (n : RegNum),
    let v := (s.reg n).toNat
    let puts := fun (i : Instr) (x : Nat) => Completes i s (s.regsWith n (BitVec.ofNat 32 x)) s.sr s.system
    puts (.shll2 n) (v * 2 ^ 2) ∧ puts (.shll8 n) (v * 2 ^ 8) ∧ puts (.shll16 n) (v * 2 ^ 16) ∧
    puts (.shlr2 n) (v / 2 ^ 2) ∧ puts (.shlr8 n) (v / 2 ^ 8) ∧ puts (.shlr16 n) (v / 2 ^ 16)

/-- SHAD and SHLD shift left for Rm >= 0, else right by 32 minus the low five bits of Rm. 43_shift.md R285, 43_shift.md
R288, 90_conflicts.md C4, 90_conflicts.md C5. What log entry 25 says is the model's choice. -/
def Obligations.DynamicShifts : Prop :=
  ∀ (s : State) (m n : RegNum),
    let c := (s.reg m).toNat % 32
    let left : Word := BitVec.ofNat 32 ((s.reg n).toNat * 2 ^ c)
    Completes (.shad m n) s
      (s.regsWith n (if (s.reg m).toInt < 0 then BitVec.ofInt 32 ((s.reg n).toInt / (2 ^ (32 - c) : Nat)) else left)) s.sr
      s.system ∧
    Completes (.shld m n) s
      (s.regsWith n (if (s.reg m).toInt < 0 then BitVec.ofNat 32 ((s.reg n).toNat / 2 ^ (32 - c)) else left)) s.sr
      s.system

/-- BF, BT, BF/S and BT/S branch by T, the /S forms after their delay slot. R306, R307, R308, R309. -/
def Obligations.ConditionalBranches : Prop :=
  ∀ (s : State) (disp : BitVec 8),
    let target := BitVec.ofInt 32 (s.pc.toInt + 4 + 2 * disp.toInt)
    let at_ := fun (i : Instr) => ∃ t, exec i s = .next t ∧ Leaves s t s.gpr.read s.sr s.system ∧ t.pc = target ∧
      t.pending = none
    let falls := fun (i : Instr) => Completes i s s.gpr.read s.sr s.system
    let delayed := fun (i : Instr) => BranchesDelayed i s s.sr s.system target
    (s.pending ≠ none → Raises (.bf disp) s .slotIllegal ∧ Raises (.bt disp) s .slotIllegal ∧
      Raises (.bfS disp) s .slotIllegal ∧ Raises (.btS disp) s .slotIllegal) ∧
    (s.pending = none → s.sr.getLsbD 0 = false →
      at_ (.bf disp) ∧ falls (.bt disp) ∧ delayed (.bfS disp) ∧ falls (.btS disp)) ∧
    (s.pending = none → s.sr.getLsbD 0 = true →
      falls (.bf disp) ∧ at_ (.bt disp) ∧ falls (.bfS disp) ∧ delayed (.btS disp))

/-- BRA, BRAF, JMP and RTS branch to their target after the delay slot. R310, R311, R314, R316. -/
def Obligations.Jumps : Prop :=
  ∀ (s : State) (disp : BitVec 12) (n : RegNum),
    let goes := fun (i : Instr) (target : Word) =>
      (s.pending ≠ none → Raises i s .slotIllegal) ∧
      (s.pending = none → BranchesDelayed i s s.sr s.system target)
    goes (.bra disp) (BitVec.ofInt 32 (s.pc.toInt + 4 + 2 * disp.toInt)) ∧
    goes (.braf n) (s.pc + 4#32 + s.reg n) ∧ goes (.jmp n) (s.reg n) ∧ goes .rts s.pr

/-- BSR, BSRF and JSR put pc + 4 in PR and branch after the delay slot. R312, R313, R315. -/
def Obligations.Calls : Prop :=
  ∀ (s : State) (disp : BitVec 12) (n : RegNum),
    let calls := fun (i : Instr) (target : Word) =>
      (s.pending ≠ none → Raises i s .slotIllegal) ∧
      (s.pending = none → BranchesDelayed i s s.sr { s.system with pr := s.pc + 4#32 } target)
    calls (.bsr disp) (BitVec.ofInt 32 (s.pc.toInt + 4 + 2 * disp.toInt)) ∧
    calls (.bsrf n) (s.pc + 4#32 + s.reg n) ∧ calls (.jsr n) (s.reg n)

/-- Every instruction that does not rewrite the program counter goes to the next word, or from a slot to the target.
10_state.md R41, 44_branch.md R302, 45_system_control.md R372, 92_eei_decisions.md D16. What log entry 14 says is
the model's choice. R41 excludes SLEEP: that SLEEP advances so is the model's choice (D16, log entry 14). -/
def Obligations.SequentialAdvance : Prop :=
  ∀ (i : Instr) (s : State), i.isSlotIllegal = false →
    ∃ t, exec i s = .next t ∧ ((∃ e, t = s.raise e) ∨ Advanced s t)

/-- CLRMAC, CLRS, CLRT, SETS, SETT and NOP write what they name and nothing else. R332, R333, R334, R367, R369, R371. -/
def Obligations.FlagInstructions : Prop :=
  ∀ s : State,
    Completes .clrmac s s.gpr.read s.sr { s.system with mach := 0#32, macl := 0#32 } ∧
    Completes .clrs s s.gpr.read (srWithS s.sr false) s.system ∧
    Completes .sets s s.gpr.read (srWithS s.sr true) s.system ∧
    Completes .clrt s s.gpr.read (srWithT s.sr false) s.system ∧
    Completes .sett s s.gpr.read (srWithT s.sr true) s.system ∧
    Completes .nop s s.gpr.read s.sr s.system

/-- LDC Rm to SR, GBR, VBR, SSR and SPC. R335, R336, R337, R338, R339. -/
def Obligations.LoadControlRegisters : Prop :=
  ∀ (s : State) (m : RegNum),
    Completes (.ldcGbr m) s s.gpr.read s.sr { s.system with gbr := s.reg m } ∧
    (s.sr.getLsbD 30 = true →
      Completes (.ldcSr m) s s.gpr.read (s.reg m &&& 0x700003F3#32) s.system ∧
      Completes (.ldcVbr m) s s.gpr.read s.sr { s.system with vbr := s.reg m } ∧
      Completes (.ldcSsr m) s s.gpr.read s.sr { s.system with ssr := s.reg m &&& 0x700003F3#32 } ∧
      Completes (.ldcSpc m) s s.gpr.read s.sr { s.system with spc := s.reg m }) ∧
    (s.pending = none → s.sr.getLsbD 30 = false → ∀ i ∈ [Instr.ldcSr m, .ldcVbr m, .ldcSsr m, .ldcSpc m],
      Raises i s .illegal)

/-- LDC Rm,Rj_BANK writes register j of the bank that is not selected. R340, R341, R342, R343, R344, R345, R346, R347. -/
def Obligations.LoadOtherBank : Prop :=
  ∀ (s : State) (i : Instr) (m : RegNum) (j : Fin 8), ldcBankForm i = some (m, j) →
    (s.sr.getLsbD 30 = true →
      Completes i s
        (Function.update s.gpr.read (if s.sr.getLsbD 29 then .bank0 j else .bank1 j) (s.reg m)) s.sr s.system) ∧
    (s.pending = none → s.sr.getLsbD 30 = false → Raises i s .illegal)

/-- LDC.L and LDS.L load a longword into their register and increment the address register by 4. 45_system_control.md
R348 to R360, 45_system_control.md R364 to R366, 92_eei_decisions.md D10, 92_eei_decisions.md D29. -/
def Obligations.PopControlRegisters : Prop :=
  ∀ (s : State) (i : Instr) (m : RegNum) (regs : PhysReg → Word) (sr : Word) (sys : SystemRegs),
    (i.isPrivileged = true → s.sr.getLsbD 30 = true) →
    ldcLForm s (s.memRead (s.reg m) .long) i = some (m, regs, sr, sys) →
    if s.accessOk .read (s.reg m) .long then CompletesRead i s (s.reg m) .long regs sr sys else Raises i s (.addressError .read)

/-- LDS and STS move all 32 bits between a general register and MACH, MACL or PR. 45_system_control.md R361 to R363,
45_system_control.md R399 to R401, 90_conflicts.md C1, 92_eei_decisions.md D14. -/
def Obligations.SystemRegisterTransfers : Prop :=
  ∀ (s : State) (m n : RegNum),
    Completes (.ldsMach m) s s.gpr.read s.sr { s.system with mach := s.reg m } ∧
    Completes (.ldsMacl m) s s.gpr.read s.sr { s.system with macl := s.reg m } ∧
    Completes (.ldsPr m) s s.gpr.read s.sr { s.system with pr := s.reg m } ∧
    Completes (.stsMach n) s (s.regsWith n s.mach) s.sr s.system ∧
    Completes (.stsMacl n) s (s.regsWith n s.macl) s.sr s.system ∧
    Completes (.stsPr n) s (s.regsWith n s.pr) s.sr s.system

/-- STC of SR, GBR, VBR, SSR and SPC to Rn. R373, R374, R375, R376, R377. -/
def Obligations.StoreControlRegisters : Prop :=
  ∀ (s : State) (n : RegNum),
    Completes (.stcGbr n) s (s.regsWith n s.gbr) s.sr s.system ∧
    (s.sr.getLsbD 30 = true →
      Completes (.stcSr n) s (s.regsWith n s.sr) s.sr s.system ∧
      Completes (.stcVbr n) s (s.regsWith n s.vbr) s.sr s.system ∧
      Completes (.stcSsr n) s (s.regsWith n s.ssr) s.sr s.system ∧
      Completes (.stcSpc n) s (s.regsWith n s.spc) s.sr s.system) ∧
    (s.pending = none → s.sr.getLsbD 30 = false → ∀ i ∈ [Instr.stcSr n, .stcVbr n, .stcSsr n, .stcSpc n],
      Raises i s .illegal)

/-- STC Rj_BANK,Rn reads register j of the bank that is not selected. R378, R379, R380, R381, R382, R383, R384, R385. -/
def Obligations.StoreOtherBank : Prop :=
  ∀ (s : State) (i : Instr) (n : RegNum) (j : Fin 8), stcBankForm i = some (j, n) →
    (s.sr.getLsbD 30 = true →
      Completes i s (s.regsWith n (s.gpr.read (if s.sr.getLsbD 29 then .bank0 j else .bank1 j))) s.sr s.system) ∧
    (s.pending = none → s.sr.getLsbD 30 = false → Raises i s .illegal)

/-- STC.L and STS.L store their register below Rn and write the address back. 45_system_control.md R386 to R398,
45_system_control.md R402 to R404, 20_memory.md R80, 20_memory.md R96, 10_state.md R52. What log entries 15, 17 say
is the model's choice. -/
def Obligations.PushControlRegisters : Prop :=
  ∀ (s : State) (i : Instr) (v : Word) (n : RegNum), (i.isPrivileged = true → s.sr.getLsbD 30 = true) →
    stcLForm s i = some (v, n) →
    s.preDec n .long = s.reg n - 4#32 ∧
    if s.accessOk .write (s.preDec n .long) .long then
      CompletesStore i s (s.regsWith n (s.preDec n .long)) s.sr (s.preDec n .long) .long v
    else Raises i s (.addressError .write)

/-- TRAPA saves SR and the next address, records its immediate and goes to VBR + H'100. 45_system_control.md R405,
60_exceptions.md R445, 92_eei_decisions.md D4. What log entry 9 says is the model's choice. -/
def Obligations.TrapaEntersTheHandler : Prop :=
  ∀ (s : State) (imm : BitVec 8),
    (s.pending ≠ none → Raises (.trapa imm) s .slotIllegal) ∧
    (s.pending = none → s.sr.getLsbD 28 = true → exec (.trapa imm) s = .next s.manualReset) ∧
    (s.pending = none → s.sr.getLsbD 28 = false →
      ∃ t, exec (.trapa imm) s = .next t ∧ t.gpr = s.gpr ∧ t.sr = s.sr ||| 0x70000000#32 ∧
        t.system = { s.system with ssr := s.sr, spc := s.pc + 2#32 } ∧
        t.mapped = { s.mapped with expevt := 0x160#12, tra := imm } ∧
        (CtrlReg.get .tra t).toNat = 4 * imm.toNat ∧
        t.surroundings = { s.surroundings with mode := .running } ∧ t.mem = s.mem ∧
        t.pc = s.vbr + 0x100#32 ∧ t.pending = none)

/-- RTE restores SR from SSR before its delay slot and then continues at SPC. R368. -/
def Obligations.ReturnFromException : Prop :=
  ∀ s : State,
    (s.pending ≠ none → Raises .rte s .slotIllegal) ∧
    (s.pending = none → s.sr.getLsbD 30 = false → Raises .rte s .illegal) ∧
    (s.pending = none → s.sr.getLsbD 30 = true → BranchesDelayed .rte s s.ssr s.system s.spc)

/-- Every step keeps the invariant of the machine. 10_state.md R39, 10_state.md R43, 20_memory.md R71, 10_state.md R53,
10_state.md R55, 92_eei_decisions.md D10, 92_eei_decisions.md D18, 00_scope.md R8. What log entry 19 says is the
model's choice. -/
def Obligations.StepKeepsInvariant : Prop :=
  ∀ s : State, s.Inv → ∃ t, step s = .next t ∧ t.Inv

/-- The state after reset meets the invariant. 10_state.md R58. -/
def Obligations.ResetMeetsInvariant : Prop :=
  State.reset.Inv

/-- What the state after reset holds. 10_state.md R58, 70_reset_and_hazards.md R480, 92_eei_decisions.md D6,
00_scope.md R8. What log entries 1, 2, 3, 4, 5, 6 say is the model's choice. -/
def Obligations.ResetValues : Prop :=
  State.reset.sr = 0x700000F0#32 ∧ Sr.imask State.reset.sr = 15#4 ∧ reservedClear State.reset.sr ∧
  State.reset.sr &&& 0x70000000#32 = 0x70000000#32 ∧ State.reset.vbr = 0#32 ∧ State.reset.pc = 0xA0000000#32 ∧
  State.reset.pending = none ∧ State.reset.mode = .running ∧ State.reset.expevt = 0#12 ∧ State.reset.tra = 0#8 ∧
  State.reset.intevt = 0#32 ∧ State.reset.pteh = 0#32 ∧ State.reset.ptel = 0#32 ∧ State.reset.mmucr = 0#32 ∧
  State.reset.stbcr = 0#8 ∧ State.reset.mmuOn = false ∧ State.reset.stby = false ∧ State.reset.mem = [] ∧
  (∀ a, ctrlByte Platform.family a = none → State.reset.readByte a = 0#8) ∧ State.reset.tlb = [] ∧
  State.reset.littleEndian = false ∧ State.reset.md5 = false ∧ State.reset.platform = Platform.family ∧
  State.reset.memMap = [] ∧ State.reset.inputs = [] ∧ State.reset.deviceIn = [] ∧ State.reset.deviceOut = [] ∧
  (∀ p, State.reset.gpr.read p = 0#32) ∧
  State.reset.system = { gbr := 0#32, vbr := 0#32, ssr := 0#32, spc := 0#32, mach := 0#32, macl := 0#32, pr := 0#32 }

/-- Only the instructions the spec lists write T, S, M, Q, MACH, MACL, PR, GBR, VBR, SSR and SPC. 10_state.md R40,
60_exceptions.md R430, 10_state.md R26, 10_state.md R27, 10_state.md R29, 10_state.md R30, 10_state.md R32,
10_state.md R33, 10_state.md R34, 10_state.md R43, 10_state.md R44. -/
def Obligations.OnlyTheNamedInstructionsWrite : Prop :=
  ∀ (i : Instr) (s t : State), exec i s = .next t → (∀ e, t ≠ s.raise e) →
    (i.writesT = false → t.sr.getLsbD 0 = s.sr.getLsbD 0) ∧
    (i.writesS = false → t.sr.getLsbD 1 = s.sr.getLsbD 1) ∧
    (i.writesMQ = false → t.sr.getLsbD 8 = s.sr.getLsbD 8 ∧ t.sr.getLsbD 9 = s.sr.getLsbD 9) ∧
    (i.writesMac = false → t.mach = s.mach ∧ t.macl = s.macl) ∧ (i.writesPr = false → t.pr = s.pr) ∧
    (i.writesGbr = false → t.gbr = s.gbr) ∧ (i.writesVbr = false → t.vbr = s.vbr) ∧
    (i.writesSaved = false → t.ssr = s.ssr ∧ t.spc = s.spc) ∧
    (s.sr.getLsbD 30 = false →
      t.sr &&& 0xFFFFFCFC#32 = s.sr &&& 0xFFFFFCFC#32 ∧ t.vbr = s.vbr ∧ t.ssr = s.ssr ∧ t.spc = s.spc)

/-- In user mode a step changes no bank 1 register and reveals neither bank 1 nor SSR nor SPC. 10_state.md R22,
10_state.md R59, 60_exceptions.md R430. -/
def Obligations.UserModeCannotReachBankOne : Prop :=
  ∀ (s : State) (bank1 : Vector Word 8) (ssr spc : Word), s.sr.getLsbD 30 = false → s.input.reset = none →
    ∃ t, step s = .next t ∧ t.gpr.bank1 = s.gpr.bank1 ∧
      ∃ ssr' spc', step (s.withHidden bank1 ssr spc) = .next (t.withHidden bank1 ssr' spc') ∧
        ((t.ssr = s.ssr ∧ t.spc = s.spc ∧ ssr' = ssr ∧ spc' = spc) ∨ (ssr' = t.ssr ∧ spc' = t.spc))

/-- User mode is left only by an exception, an interrupt or a reset, and entered only by LDC to SR or RTE. 10_state.md
R38, 00_scope.md R8. What log entry 4 says is the model's choice. -/
def Obligations.ModeChanges : Prop :=
  (∀ s t : State, step s = .next t → s.sr.getLsbD 30 = false → t.sr.getLsbD 30 = true →
    (∃ e, t = s.afterInput.raise e) ∨ (∃ r, t = s.afterInput.interrupt r) ∨ (∃ r, t = s.afterInput.resetBy r)) ∧
  (∀ s t : State, step s = .next t → s.sr.getLsbD 30 = true → t.sr.getLsbD 30 = false →
    (s.platform.resetMd = false ∧
      ((∃ r, s.input.reset = some r) ∨ (s.sr.getLsbD 28 = true ∧ t = s.afterInput.manualReset))) ∨
    ∃ w i, s.afterInput.fetch = some w ∧ decode w = .ok i ∧
      ((∃ m, i = .ldcSr m ∧ (s.reg m).getLsbD 30 = false) ∨
       (∃ m, i = .ldcLSr m ∧ (s.afterInput.memRead (s.reg m) .long).getLsbD 30 = false) ∨
       (i = .rte ∧ s.ssr.getLsbD 30 = false))) ∧
  (∀ (s : State) (e : Exc), s.sr.getLsbD 28 = false ∨ s.platform.resetMd = true → (s.raise e).sr.getLsbD 30 = true) ∧
  (∀ m : RegNum, (Instr.ldcSr m).isPrivileged = true ∧ (Instr.ldcLSr m).isPrivileged = true) ∧
  Instr.rte.isPrivileged = true
end

