-- ==== Sys2Proof/Laws/State.lean ====
section
/-! SUPPORT. What each named update of the state does to each field, so that no proof unfolds a record update. -/

namespace Sys2Proof.Machine

/-! ### `State.setReg` -/

@[simp] theorem State.setReg_gpr (s : State) (n : RegNum) (v : Word) :
    (s.setReg n v).gpr = s.gpr.write (physReg s.sr n) v := rfl
@[simp] theorem State.setReg_sr (s : State) (n : RegNum) (v : Word) : (s.setReg n v).sr = s.sr := rfl
@[simp] theorem State.setReg_gbr (s : State) (n : RegNum) (v : Word) : (s.setReg n v).gbr = s.gbr := rfl
@[simp] theorem State.setReg_vbr (s : State) (n : RegNum) (v : Word) : (s.setReg n v).vbr = s.vbr := rfl
@[simp] theorem State.setReg_ssr (s : State) (n : RegNum) (v : Word) : (s.setReg n v).ssr = s.ssr := rfl
@[simp] theorem State.setReg_spc (s : State) (n : RegNum) (v : Word) : (s.setReg n v).spc = s.spc := rfl
@[simp] theorem State.setReg_mach (s : State) (n : RegNum) (v : Word) : (s.setReg n v).mach = s.mach := rfl
@[simp] theorem State.setReg_macl (s : State) (n : RegNum) (v : Word) : (s.setReg n v).macl = s.macl := rfl
@[simp] theorem State.setReg_pr (s : State) (n : RegNum) (v : Word) : (s.setReg n v).pr = s.pr := rfl
@[simp] theorem State.setReg_pc (s : State) (n : RegNum) (v : Word) : (s.setReg n v).pc = s.pc := rfl
@[simp] theorem State.setReg_expevt (s : State) (n : RegNum) (v : Word) : (s.setReg n v).expevt = s.expevt := rfl
@[simp] theorem State.setReg_tra (s : State) (n : RegNum) (v : Word) : (s.setReg n v).tra = s.tra := rfl
@[simp] theorem State.setReg_intevt (s : State) (n : RegNum) (v : Word) : (s.setReg n v).intevt = s.intevt := rfl
@[simp] theorem State.setReg_pteh (s : State) (n : RegNum) (v : Word) : (s.setReg n v).pteh = s.pteh := rfl
@[simp] theorem State.setReg_ptel (s : State) (n : RegNum) (v : Word) : (s.setReg n v).ptel = s.ptel := rfl
@[simp] theorem State.setReg_mmucr (s : State) (n : RegNum) (v : Word) : (s.setReg n v).mmucr = s.mmucr := rfl
@[simp] theorem State.setReg_stbcr (s : State) (n : RegNum) (v : Word) : (s.setReg n v).stbcr = s.stbcr := rfl
@[simp] theorem State.setReg_tlb (s : State) (n : RegNum) (v : Word) : (s.setReg n v).tlb = s.tlb := rfl
@[simp] theorem State.setReg_mem (s : State) (n : RegNum) (v : Word) : (s.setReg n v).mem = s.mem := rfl
@[simp] theorem State.setReg_littleEndian (s : State) (n : RegNum) (v : Word) :
    (s.setReg n v).littleEndian = s.littleEndian := rfl
@[simp] theorem State.setReg_md5 (s : State) (n : RegNum) (v : Word) : (s.setReg n v).md5 = s.md5 := rfl
@[simp] theorem State.setReg_pending (s : State) (n : RegNum) (v : Word) :
    (s.setReg n v).pending = s.pending := rfl
@[simp] theorem State.setReg_mode (s : State) (n : RegNum) (v : Word) : (s.setReg n v).mode = s.mode := rfl
@[simp] theorem State.setReg_memMap (s : State) (n : RegNum) (v : Word) : (s.setReg n v).memMap = s.memMap := rfl
@[simp] theorem State.setReg_platform (s : State) (n : RegNum) (v : Word) :
    (s.setReg n v).platform = s.platform := rfl
@[simp] theorem State.setReg_deviceIn (s : State) (n : RegNum) (v : Word) :
    (s.setReg n v).deviceIn = s.deviceIn := rfl
@[simp] theorem State.setReg_deviceOut (s : State) (n : RegNum) (v : Word) :
    (s.setReg n v).deviceOut = s.deviceOut := rfl
@[simp] theorem State.setReg_inputs (s : State) (n : RegNum) (v : Word) : (s.setReg n v).inputs = s.inputs := rfl
@[simp] theorem State.setReg_freeCount (s : State) (n : RegNum) (v : Word) :
    (s.setReg n v).freeCount = s.freeCount := rfl
@[simp] theorem State.setReg_readByte (s : State) (n : RegNum) (v : Word) (at_ : Word) :
    (s.setReg n v).readByte at_ = s.readByte at_ := rfl
@[simp] theorem State.setReg_isDevice (s : State) (n : RegNum) (v : Word) (at_ : Word) :
    (s.setReg n v).isDevice at_ = s.isDevice at_ := rfl
@[simp] theorem State.setReg_mapped (s : State) (n : RegNum) (v : Word) : (s.setReg n v).mapped = s.mapped := rfl
@[simp] theorem State.setReg_surroundings (s : State) (n : RegNum) (v : Word) :
    (s.setReg n v).surroundings = s.surroundings := rfl
@[simp] theorem State.setReg_system (s : State) (n : RegNum) (v : Word) : (s.setReg n v).system = s.system := rfl

/-! ### `State.setOther` -/

@[simp] theorem State.setOther_gpr (s : State) (j : Fin 8) (v : Word) :
    (s.setOther j v).gpr = s.gpr.write (otherReg s.sr j) v := rfl
@[simp] theorem State.setOther_sr (s : State) (j : Fin 8) (v : Word) : (s.setOther j v).sr = s.sr := rfl
@[simp] theorem State.setOther_gbr (s : State) (j : Fin 8) (v : Word) : (s.setOther j v).gbr = s.gbr := rfl
@[simp] theorem State.setOther_vbr (s : State) (j : Fin 8) (v : Word) : (s.setOther j v).vbr = s.vbr := rfl
@[simp] theorem State.setOther_ssr (s : State) (j : Fin 8) (v : Word) : (s.setOther j v).ssr = s.ssr := rfl
@[simp] theorem State.setOther_spc (s : State) (j : Fin 8) (v : Word) : (s.setOther j v).spc = s.spc := rfl
@[simp] theorem State.setOther_mach (s : State) (j : Fin 8) (v : Word) : (s.setOther j v).mach = s.mach := rfl
@[simp] theorem State.setOther_macl (s : State) (j : Fin 8) (v : Word) : (s.setOther j v).macl = s.macl := rfl
@[simp] theorem State.setOther_pr (s : State) (j : Fin 8) (v : Word) : (s.setOther j v).pr = s.pr := rfl
@[simp] theorem State.setOther_pc (s : State) (j : Fin 8) (v : Word) : (s.setOther j v).pc = s.pc := rfl
@[simp] theorem State.setOther_expevt (s : State) (j : Fin 8) (v : Word) :
    (s.setOther j v).expevt = s.expevt := rfl
@[simp] theorem State.setOther_tra (s : State) (j : Fin 8) (v : Word) : (s.setOther j v).tra = s.tra := rfl
@[simp] theorem State.setOther_intevt (s : State) (j : Fin 8) (v : Word) :
    (s.setOther j v).intevt = s.intevt := rfl
@[simp] theorem State.setOther_pteh (s : State) (j : Fin 8) (v : Word) : (s.setOther j v).pteh = s.pteh := rfl
@[simp] theorem State.setOther_ptel (s : State) (j : Fin 8) (v : Word) : (s.setOther j v).ptel = s.ptel := rfl
@[simp] theorem State.setOther_mmucr (s : State) (j : Fin 8) (v : Word) : (s.setOther j v).mmucr = s.mmucr := rfl
@[simp] theorem State.setOther_stbcr (s : State) (j : Fin 8) (v : Word) : (s.setOther j v).stbcr = s.stbcr := rfl
@[simp] theorem State.setOther_tlb (s : State) (j : Fin 8) (v : Word) : (s.setOther j v).tlb = s.tlb := rfl
@[simp] theorem State.setOther_mem (s : State) (j : Fin 8) (v : Word) : (s.setOther j v).mem = s.mem := rfl
@[simp] theorem State.setOther_littleEndian (s : State) (j : Fin 8) (v : Word) :
    (s.setOther j v).littleEndian = s.littleEndian := rfl
@[simp] theorem State.setOther_md5 (s : State) (j : Fin 8) (v : Word) : (s.setOther j v).md5 = s.md5 := rfl
@[simp] theorem State.setOther_pending (s : State) (j : Fin 8) (v : Word) :
    (s.setOther j v).pending = s.pending := rfl
@[simp] theorem State.setOther_mode (s : State) (j : Fin 8) (v : Word) : (s.setOther j v).mode = s.mode := rfl
@[simp] theorem State.setOther_memMap (s : State) (j : Fin 8) (v : Word) :
    (s.setOther j v).memMap = s.memMap := rfl
@[simp] theorem State.setOther_platform (s : State) (j : Fin 8) (v : Word) :
    (s.setOther j v).platform = s.platform := rfl
@[simp] theorem State.setOther_deviceIn (s : State) (j : Fin 8) (v : Word) :
    (s.setOther j v).deviceIn = s.deviceIn := rfl
@[simp] theorem State.setOther_deviceOut (s : State) (j : Fin 8) (v : Word) :
    (s.setOther j v).deviceOut = s.deviceOut := rfl
@[simp] theorem State.setOther_inputs (s : State) (j : Fin 8) (v : Word) :
    (s.setOther j v).inputs = s.inputs := rfl
@[simp] theorem State.setOther_freeCount (s : State) (j : Fin 8) (v : Word) :
    (s.setOther j v).freeCount = s.freeCount := rfl
@[simp] theorem State.setOther_readByte (s : State) (j : Fin 8) (v : Word) (at_ : Word) :
    (s.setOther j v).readByte at_ = s.readByte at_ := rfl
@[simp] theorem State.setOther_isDevice (s : State) (j : Fin 8) (v : Word) (at_ : Word) :
    (s.setOther j v).isDevice at_ = s.isDevice at_ := rfl
@[simp] theorem State.setOther_mapped (s : State) (j : Fin 8) (v : Word) :
    (s.setOther j v).mapped = s.mapped := rfl
@[simp] theorem State.setOther_surroundings (s : State) (j : Fin 8) (v : Word) :
    (s.setOther j v).surroundings = s.surroundings := rfl
@[simp] theorem State.setOther_system (s : State) (j : Fin 8) (v : Word) :
    (s.setOther j v).system = s.system := rfl

/-! ### `State.setSr` -/

@[simp] theorem State.setSr_gpr (s : State) (v : Word) : (s.setSr v).gpr = s.gpr := rfl
@[simp] theorem State.setSr_sr (s : State) (v : Word) : (s.setSr v).sr = v := rfl
@[simp] theorem State.setSr_gbr (s : State) (v : Word) : (s.setSr v).gbr = s.gbr := rfl
@[simp] theorem State.setSr_vbr (s : State) (v : Word) : (s.setSr v).vbr = s.vbr := rfl
@[simp] theorem State.setSr_ssr (s : State) (v : Word) : (s.setSr v).ssr = s.ssr := rfl
@[simp] theorem State.setSr_spc (s : State) (v : Word) : (s.setSr v).spc = s.spc := rfl
@[simp] theorem State.setSr_mach (s : State) (v : Word) : (s.setSr v).mach = s.mach := rfl
@[simp] theorem State.setSr_macl (s : State) (v : Word) : (s.setSr v).macl = s.macl := rfl
@[simp] theorem State.setSr_pr (s : State) (v : Word) : (s.setSr v).pr = s.pr := rfl
@[simp] theorem State.setSr_pc (s : State) (v : Word) : (s.setSr v).pc = s.pc := rfl
@[simp] theorem State.setSr_expevt (s : State) (v : Word) : (s.setSr v).expevt = s.expevt := rfl
@[simp] theorem State.setSr_tra (s : State) (v : Word) : (s.setSr v).tra = s.tra := rfl
@[simp] theorem State.setSr_intevt (s : State) (v : Word) : (s.setSr v).intevt = s.intevt := rfl
@[simp] theorem State.setSr_pteh (s : State) (v : Word) : (s.setSr v).pteh = s.pteh := rfl
@[simp] theorem State.setSr_ptel (s : State) (v : Word) : (s.setSr v).ptel = s.ptel := rfl
@[simp] theorem State.setSr_mmucr (s : State) (v : Word) : (s.setSr v).mmucr = s.mmucr := rfl
@[simp] theorem State.setSr_stbcr (s : State) (v : Word) : (s.setSr v).stbcr = s.stbcr := rfl
@[simp] theorem State.setSr_tlb (s : State) (v : Word) : (s.setSr v).tlb = s.tlb := rfl
@[simp] theorem State.setSr_mem (s : State) (v : Word) : (s.setSr v).mem = s.mem := rfl
@[simp] theorem State.setSr_littleEndian (s : State) (v : Word) : (s.setSr v).littleEndian = s.littleEndian := rfl
@[simp] theorem State.setSr_md5 (s : State) (v : Word) : (s.setSr v).md5 = s.md5 := rfl
@[simp] theorem State.setSr_pending (s : State) (v : Word) : (s.setSr v).pending = s.pending := rfl
@[simp] theorem State.setSr_mode (s : State) (v : Word) : (s.setSr v).mode = s.mode := rfl
@[simp] theorem State.setSr_memMap (s : State) (v : Word) : (s.setSr v).memMap = s.memMap := rfl
@[simp] theorem State.setSr_platform (s : State) (v : Word) : (s.setSr v).platform = s.platform := rfl
@[simp] theorem State.setSr_deviceIn (s : State) (v : Word) : (s.setSr v).deviceIn = s.deviceIn := rfl
@[simp] theorem State.setSr_deviceOut (s : State) (v : Word) : (s.setSr v).deviceOut = s.deviceOut := rfl
@[simp] theorem State.setSr_inputs (s : State) (v : Word) : (s.setSr v).inputs = s.inputs := rfl
@[simp] theorem State.setSr_freeCount (s : State) (v : Word) : (s.setSr v).freeCount = s.freeCount := rfl
@[simp] theorem State.setSr_readByte (s : State) (v : Word) (at_ : Word) :
    (s.setSr v).readByte at_ = s.readByte at_ := rfl
@[simp] theorem State.setSr_isDevice (s : State) (v : Word) (at_ : Word) :
    (s.setSr v).isDevice at_ = s.isDevice at_ := rfl
@[simp] theorem State.setSr_mapped (s : State) (v : Word) : (s.setSr v).mapped = s.mapped := rfl
@[simp] theorem State.setSr_surroundings (s : State) (v : Word) : (s.setSr v).surroundings = s.surroundings := rfl
@[simp] theorem State.setSr_system (s : State) (v : Word) : (s.setSr v).system = s.system := rfl

/-! ### `State.setT` -/

@[simp] theorem State.setT_gpr (s : State) (b : Bool) : (s.setT b).gpr = s.gpr := rfl
@[simp] theorem State.setT_sr (s : State) (b : Bool) : (s.setT b).sr = Sr.setT s.sr b := rfl
@[simp] theorem State.setT_gbr (s : State) (b : Bool) : (s.setT b).gbr = s.gbr := rfl
@[simp] theorem State.setT_vbr (s : State) (b : Bool) : (s.setT b).vbr = s.vbr := rfl
@[simp] theorem State.setT_ssr (s : State) (b : Bool) : (s.setT b).ssr = s.ssr := rfl
@[simp] theorem State.setT_spc (s : State) (b : Bool) : (s.setT b).spc = s.spc := rfl
@[simp] theorem State.setT_mach (s : State) (b : Bool) : (s.setT b).mach = s.mach := rfl
@[simp] theorem State.setT_macl (s : State) (b : Bool) : (s.setT b).macl = s.macl := rfl
@[simp] theorem State.setT_pr (s : State) (b : Bool) : (s.setT b).pr = s.pr := rfl
@[simp] theorem State.setT_pc (s : State) (b : Bool) : (s.setT b).pc = s.pc := rfl
@[simp] theorem State.setT_expevt (s : State) (b : Bool) : (s.setT b).expevt = s.expevt := rfl
@[simp] theorem State.setT_tra (s : State) (b : Bool) : (s.setT b).tra = s.tra := rfl
@[simp] theorem State.setT_intevt (s : State) (b : Bool) : (s.setT b).intevt = s.intevt := rfl
@[simp] theorem State.setT_pteh (s : State) (b : Bool) : (s.setT b).pteh = s.pteh := rfl
@[simp] theorem State.setT_ptel (s : State) (b : Bool) : (s.setT b).ptel = s.ptel := rfl
@[simp] theorem State.setT_mmucr (s : State) (b : Bool) : (s.setT b).mmucr = s.mmucr := rfl
@[simp] theorem State.setT_stbcr (s : State) (b : Bool) : (s.setT b).stbcr = s.stbcr := rfl
@[simp] theorem State.setT_tlb (s : State) (b : Bool) : (s.setT b).tlb = s.tlb := rfl
@[simp] theorem State.setT_mem (s : State) (b : Bool) : (s.setT b).mem = s.mem := rfl
@[simp] theorem State.setT_littleEndian (s : State) (b : Bool) : (s.setT b).littleEndian = s.littleEndian := rfl
@[simp] theorem State.setT_md5 (s : State) (b : Bool) : (s.setT b).md5 = s.md5 := rfl
@[simp] theorem State.setT_pending (s : State) (b : Bool) : (s.setT b).pending = s.pending := rfl
@[simp] theorem State.setT_mode (s : State) (b : Bool) : (s.setT b).mode = s.mode := rfl
@[simp] theorem State.setT_memMap (s : State) (b : Bool) : (s.setT b).memMap = s.memMap := rfl
@[simp] theorem State.setT_platform (s : State) (b : Bool) : (s.setT b).platform = s.platform := rfl
@[simp] theorem State.setT_deviceIn (s : State) (b : Bool) : (s.setT b).deviceIn = s.deviceIn := rfl
@[simp] theorem State.setT_deviceOut (s : State) (b : Bool) : (s.setT b).deviceOut = s.deviceOut := rfl
@[simp] theorem State.setT_inputs (s : State) (b : Bool) : (s.setT b).inputs = s.inputs := rfl
@[simp] theorem State.setT_freeCount (s : State) (b : Bool) : (s.setT b).freeCount = s.freeCount := rfl
@[simp] theorem State.setT_readByte (s : State) (b : Bool) (at_ : Word) :
    (s.setT b).readByte at_ = s.readByte at_ := rfl
@[simp] theorem State.setT_isDevice (s : State) (b : Bool) (at_ : Word) :
    (s.setT b).isDevice at_ = s.isDevice at_ := rfl
@[simp] theorem State.setT_mapped (s : State) (b : Bool) : (s.setT b).mapped = s.mapped := rfl
@[simp] theorem State.setT_surroundings (s : State) (b : Bool) : (s.setT b).surroundings = s.surroundings := rfl
@[simp] theorem State.setT_system (s : State) (b : Bool) : (s.setT b).system = s.system := rfl

/-! ### `State.setS` -/

@[simp] theorem State.setS_gpr (s : State) (b : Bool) : (s.setS b).gpr = s.gpr := rfl
@[simp] theorem State.setS_sr (s : State) (b : Bool) : (s.setS b).sr = Sr.setS s.sr b := rfl
@[simp] theorem State.setS_gbr (s : State) (b : Bool) : (s.setS b).gbr = s.gbr := rfl
@[simp] theorem State.setS_vbr (s : State) (b : Bool) : (s.setS b).vbr = s.vbr := rfl
@[simp] theorem State.setS_ssr (s : State) (b : Bool) : (s.setS b).ssr = s.ssr := rfl
@[simp] theorem State.setS_spc (s : State) (b : Bool) : (s.setS b).spc = s.spc := rfl
@[simp] theorem State.setS_mach (s : State) (b : Bool) : (s.setS b).mach = s.mach := rfl
@[simp] theorem State.setS_macl (s : State) (b : Bool) : (s.setS b).macl = s.macl := rfl
@[simp] theorem State.setS_pr (s : State) (b : Bool) : (s.setS b).pr = s.pr := rfl
@[simp] theorem State.setS_pc (s : State) (b : Bool) : (s.setS b).pc = s.pc := rfl
@[simp] theorem State.setS_expevt (s : State) (b : Bool) : (s.setS b).expevt = s.expevt := rfl
@[simp] theorem State.setS_tra (s : State) (b : Bool) : (s.setS b).tra = s.tra := rfl
@[simp] theorem State.setS_intevt (s : State) (b : Bool) : (s.setS b).intevt = s.intevt := rfl
@[simp] theorem State.setS_pteh (s : State) (b : Bool) : (s.setS b).pteh = s.pteh := rfl
@[simp] theorem State.setS_ptel (s : State) (b : Bool) : (s.setS b).ptel = s.ptel := rfl
@[simp] theorem State.setS_mmucr (s : State) (b : Bool) : (s.setS b).mmucr = s.mmucr := rfl
@[simp] theorem State.setS_stbcr (s : State) (b : Bool) : (s.setS b).stbcr = s.stbcr := rfl
@[simp] theorem State.setS_tlb (s : State) (b : Bool) : (s.setS b).tlb = s.tlb := rfl
@[simp] theorem State.setS_mem (s : State) (b : Bool) : (s.setS b).mem = s.mem := rfl
@[simp] theorem State.setS_littleEndian (s : State) (b : Bool) : (s.setS b).littleEndian = s.littleEndian := rfl
@[simp] theorem State.setS_md5 (s : State) (b : Bool) : (s.setS b).md5 = s.md5 := rfl
@[simp] theorem State.setS_pending (s : State) (b : Bool) : (s.setS b).pending = s.pending := rfl
@[simp] theorem State.setS_mode (s : State) (b : Bool) : (s.setS b).mode = s.mode := rfl
@[simp] theorem State.setS_memMap (s : State) (b : Bool) : (s.setS b).memMap = s.memMap := rfl
@[simp] theorem State.setS_platform (s : State) (b : Bool) : (s.setS b).platform = s.platform := rfl
@[simp] theorem State.setS_deviceIn (s : State) (b : Bool) : (s.setS b).deviceIn = s.deviceIn := rfl
@[simp] theorem State.setS_deviceOut (s : State) (b : Bool) : (s.setS b).deviceOut = s.deviceOut := rfl
@[simp] theorem State.setS_inputs (s : State) (b : Bool) : (s.setS b).inputs = s.inputs := rfl
@[simp] theorem State.setS_freeCount (s : State) (b : Bool) : (s.setS b).freeCount = s.freeCount := rfl
@[simp] theorem State.setS_readByte (s : State) (b : Bool) (at_ : Word) :
    (s.setS b).readByte at_ = s.readByte at_ := rfl
@[simp] theorem State.setS_isDevice (s : State) (b : Bool) (at_ : Word) :
    (s.setS b).isDevice at_ = s.isDevice at_ := rfl
@[simp] theorem State.setS_mapped (s : State) (b : Bool) : (s.setS b).mapped = s.mapped := rfl
@[simp] theorem State.setS_surroundings (s : State) (b : Bool) : (s.setS b).surroundings = s.surroundings := rfl
@[simp] theorem State.setS_system (s : State) (b : Bool) : (s.setS b).system = s.system := rfl

/-! ### `State.setQ` -/

@[simp] theorem State.setQ_gpr (s : State) (b : Bool) : (s.setQ b).gpr = s.gpr := rfl
@[simp] theorem State.setQ_sr (s : State) (b : Bool) : (s.setQ b).sr = Sr.setQ s.sr b := rfl
@[simp] theorem State.setQ_gbr (s : State) (b : Bool) : (s.setQ b).gbr = s.gbr := rfl
@[simp] theorem State.setQ_vbr (s : State) (b : Bool) : (s.setQ b).vbr = s.vbr := rfl
@[simp] theorem State.setQ_ssr (s : State) (b : Bool) : (s.setQ b).ssr = s.ssr := rfl
@[simp] theorem State.setQ_spc (s : State) (b : Bool) : (s.setQ b).spc = s.spc := rfl
@[simp] theorem State.setQ_mach (s : State) (b : Bool) : (s.setQ b).mach = s.mach := rfl
@[simp] theorem State.setQ_macl (s : State) (b : Bool) : (s.setQ b).macl = s.macl := rfl
@[simp] theorem State.setQ_pr (s : State) (b : Bool) : (s.setQ b).pr = s.pr := rfl
@[simp] theorem State.setQ_pc (s : State) (b : Bool) : (s.setQ b).pc = s.pc := rfl
@[simp] theorem State.setQ_expevt (s : State) (b : Bool) : (s.setQ b).expevt = s.expevt := rfl
@[simp] theorem State.setQ_tra (s : State) (b : Bool) : (s.setQ b).tra = s.tra := rfl
@[simp] theorem State.setQ_intevt (s : State) (b : Bool) : (s.setQ b).intevt = s.intevt := rfl
@[simp] theorem State.setQ_pteh (s : State) (b : Bool) : (s.setQ b).pteh = s.pteh := rfl
@[simp] theorem State.setQ_ptel (s : State) (b : Bool) : (s.setQ b).ptel = s.ptel := rfl
@[simp] theorem State.setQ_mmucr (s : State) (b : Bool) : (s.setQ b).mmucr = s.mmucr := rfl
@[simp] theorem State.setQ_stbcr (s : State) (b : Bool) : (s.setQ b).stbcr = s.stbcr := rfl
@[simp] theorem State.setQ_tlb (s : State) (b : Bool) : (s.setQ b).tlb = s.tlb := rfl
@[simp] theorem State.setQ_mem (s : State) (b : Bool) : (s.setQ b).mem = s.mem := rfl
@[simp] theorem State.setQ_littleEndian (s : State) (b : Bool) : (s.setQ b).littleEndian = s.littleEndian := rfl
@[simp] theorem State.setQ_md5 (s : State) (b : Bool) : (s.setQ b).md5 = s.md5 := rfl
@[simp] theorem State.setQ_pending (s : State) (b : Bool) : (s.setQ b).pending = s.pending := rfl
@[simp] theorem State.setQ_mode (s : State) (b : Bool) : (s.setQ b).mode = s.mode := rfl
@[simp] theorem State.setQ_memMap (s : State) (b : Bool) : (s.setQ b).memMap = s.memMap := rfl
@[simp] theorem State.setQ_platform (s : State) (b : Bool) : (s.setQ b).platform = s.platform := rfl
@[simp] theorem State.setQ_deviceIn (s : State) (b : Bool) : (s.setQ b).deviceIn = s.deviceIn := rfl
@[simp] theorem State.setQ_deviceOut (s : State) (b : Bool) : (s.setQ b).deviceOut = s.deviceOut := rfl
@[simp] theorem State.setQ_inputs (s : State) (b : Bool) : (s.setQ b).inputs = s.inputs := rfl
@[simp] theorem State.setQ_freeCount (s : State) (b : Bool) : (s.setQ b).freeCount = s.freeCount := rfl
@[simp] theorem State.setQ_readByte (s : State) (b : Bool) (at_ : Word) :
    (s.setQ b).readByte at_ = s.readByte at_ := rfl
@[simp] theorem State.setQ_isDevice (s : State) (b : Bool) (at_ : Word) :
    (s.setQ b).isDevice at_ = s.isDevice at_ := rfl
@[simp] theorem State.setQ_mapped (s : State) (b : Bool) : (s.setQ b).mapped = s.mapped := rfl
@[simp] theorem State.setQ_surroundings (s : State) (b : Bool) : (s.setQ b).surroundings = s.surroundings := rfl
@[simp] theorem State.setQ_system (s : State) (b : Bool) : (s.setQ b).system = s.system := rfl

/-! ### `State.setM` -/

@[simp] theorem State.setM_gpr (s : State) (b : Bool) : (s.setM b).gpr = s.gpr := rfl
@[simp] theorem State.setM_sr (s : State) (b : Bool) : (s.setM b).sr = Sr.setM s.sr b := rfl
@[simp] theorem State.setM_gbr (s : State) (b : Bool) : (s.setM b).gbr = s.gbr := rfl
@[simp] theorem State.setM_vbr (s : State) (b : Bool) : (s.setM b).vbr = s.vbr := rfl
@[simp] theorem State.setM_ssr (s : State) (b : Bool) : (s.setM b).ssr = s.ssr := rfl
@[simp] theorem State.setM_spc (s : State) (b : Bool) : (s.setM b).spc = s.spc := rfl
@[simp] theorem State.setM_mach (s : State) (b : Bool) : (s.setM b).mach = s.mach := rfl
@[simp] theorem State.setM_macl (s : State) (b : Bool) : (s.setM b).macl = s.macl := rfl
@[simp] theorem State.setM_pr (s : State) (b : Bool) : (s.setM b).pr = s.pr := rfl
@[simp] theorem State.setM_pc (s : State) (b : Bool) : (s.setM b).pc = s.pc := rfl
@[simp] theorem State.setM_expevt (s : State) (b : Bool) : (s.setM b).expevt = s.expevt := rfl
@[simp] theorem State.setM_tra (s : State) (b : Bool) : (s.setM b).tra = s.tra := rfl
@[simp] theorem State.setM_intevt (s : State) (b : Bool) : (s.setM b).intevt = s.intevt := rfl
@[simp] theorem State.setM_pteh (s : State) (b : Bool) : (s.setM b).pteh = s.pteh := rfl
@[simp] theorem State.setM_ptel (s : State) (b : Bool) : (s.setM b).ptel = s.ptel := rfl
@[simp] theorem State.setM_mmucr (s : State) (b : Bool) : (s.setM b).mmucr = s.mmucr := rfl
@[simp] theorem State.setM_stbcr (s : State) (b : Bool) : (s.setM b).stbcr = s.stbcr := rfl
@[simp] theorem State.setM_tlb (s : State) (b : Bool) : (s.setM b).tlb = s.tlb := rfl
@[simp] theorem State.setM_mem (s : State) (b : Bool) : (s.setM b).mem = s.mem := rfl
@[simp] theorem State.setM_littleEndian (s : State) (b : Bool) : (s.setM b).littleEndian = s.littleEndian := rfl
@[simp] theorem State.setM_md5 (s : State) (b : Bool) : (s.setM b).md5 = s.md5 := rfl
@[simp] theorem State.setM_pending (s : State) (b : Bool) : (s.setM b).pending = s.pending := rfl
@[simp] theorem State.setM_mode (s : State) (b : Bool) : (s.setM b).mode = s.mode := rfl
@[simp] theorem State.setM_memMap (s : State) (b : Bool) : (s.setM b).memMap = s.memMap := rfl
@[simp] theorem State.setM_platform (s : State) (b : Bool) : (s.setM b).platform = s.platform := rfl
@[simp] theorem State.setM_deviceIn (s : State) (b : Bool) : (s.setM b).deviceIn = s.deviceIn := rfl
@[simp] theorem State.setM_deviceOut (s : State) (b : Bool) : (s.setM b).deviceOut = s.deviceOut := rfl
@[simp] theorem State.setM_inputs (s : State) (b : Bool) : (s.setM b).inputs = s.inputs := rfl
@[simp] theorem State.setM_freeCount (s : State) (b : Bool) : (s.setM b).freeCount = s.freeCount := rfl
@[simp] theorem State.setM_readByte (s : State) (b : Bool) (at_ : Word) :
    (s.setM b).readByte at_ = s.readByte at_ := rfl
@[simp] theorem State.setM_isDevice (s : State) (b : Bool) (at_ : Word) :
    (s.setM b).isDevice at_ = s.isDevice at_ := rfl
@[simp] theorem State.setM_mapped (s : State) (b : Bool) : (s.setM b).mapped = s.mapped := rfl
@[simp] theorem State.setM_surroundings (s : State) (b : Bool) : (s.setM b).surroundings = s.surroundings := rfl
@[simp] theorem State.setM_system (s : State) (b : Bool) : (s.setM b).system = s.system := rfl

/-! ### `State.setMac` -/

@[simp] theorem State.setMac_gpr (s : State) (v : BitVec 64) : (s.setMac v).gpr = s.gpr := rfl
@[simp] theorem State.setMac_sr (s : State) (v : BitVec 64) : (s.setMac v).sr = s.sr := rfl
@[simp] theorem State.setMac_gbr (s : State) (v : BitVec 64) : (s.setMac v).gbr = s.gbr := rfl
@[simp] theorem State.setMac_vbr (s : State) (v : BitVec 64) : (s.setMac v).vbr = s.vbr := rfl
@[simp] theorem State.setMac_ssr (s : State) (v : BitVec 64) : (s.setMac v).ssr = s.ssr := rfl
@[simp] theorem State.setMac_spc (s : State) (v : BitVec 64) : (s.setMac v).spc = s.spc := rfl
@[simp] theorem State.setMac_mach (s : State) (v : BitVec 64) : (s.setMac v).mach = v.extractLsb' 32 32 := rfl
@[simp] theorem State.setMac_macl (s : State) (v : BitVec 64) : (s.setMac v).macl = v.extractLsb' 0 32 := rfl
@[simp] theorem State.setMac_pr (s : State) (v : BitVec 64) : (s.setMac v).pr = s.pr := rfl
@[simp] theorem State.setMac_pc (s : State) (v : BitVec 64) : (s.setMac v).pc = s.pc := rfl
@[simp] theorem State.setMac_expevt (s : State) (v : BitVec 64) : (s.setMac v).expevt = s.expevt := rfl
@[simp] theorem State.setMac_tra (s : State) (v : BitVec 64) : (s.setMac v).tra = s.tra := rfl
@[simp] theorem State.setMac_intevt (s : State) (v : BitVec 64) : (s.setMac v).intevt = s.intevt := rfl
@[simp] theorem State.setMac_pteh (s : State) (v : BitVec 64) : (s.setMac v).pteh = s.pteh := rfl
@[simp] theorem State.setMac_ptel (s : State) (v : BitVec 64) : (s.setMac v).ptel = s.ptel := rfl
@[simp] theorem State.setMac_mmucr (s : State) (v : BitVec 64) : (s.setMac v).mmucr = s.mmucr := rfl
@[simp] theorem State.setMac_stbcr (s : State) (v : BitVec 64) : (s.setMac v).stbcr = s.stbcr := rfl
@[simp] theorem State.setMac_tlb (s : State) (v : BitVec 64) : (s.setMac v).tlb = s.tlb := rfl
@[simp] theorem State.setMac_mem (s : State) (v : BitVec 64) : (s.setMac v).mem = s.mem := rfl
@[simp] theorem State.setMac_littleEndian (s : State) (v : BitVec 64) :
    (s.setMac v).littleEndian = s.littleEndian := rfl
@[simp] theorem State.setMac_md5 (s : State) (v : BitVec 64) : (s.setMac v).md5 = s.md5 := rfl
@[simp] theorem State.setMac_pending (s : State) (v : BitVec 64) : (s.setMac v).pending = s.pending := rfl
@[simp] theorem State.setMac_mode (s : State) (v : BitVec 64) : (s.setMac v).mode = s.mode := rfl
@[simp] theorem State.setMac_memMap (s : State) (v : BitVec 64) : (s.setMac v).memMap = s.memMap := rfl
@[simp] theorem State.setMac_platform (s : State) (v : BitVec 64) : (s.setMac v).platform = s.platform := rfl
@[simp] theorem State.setMac_deviceIn (s : State) (v : BitVec 64) : (s.setMac v).deviceIn = s.deviceIn := rfl
@[simp] theorem State.setMac_deviceOut (s : State) (v : BitVec 64) : (s.setMac v).deviceOut = s.deviceOut := rfl
@[simp] theorem State.setMac_inputs (s : State) (v : BitVec 64) : (s.setMac v).inputs = s.inputs := rfl
@[simp] theorem State.setMac_freeCount (s : State) (v : BitVec 64) : (s.setMac v).freeCount = s.freeCount := rfl
@[simp] theorem State.setMac_readByte (s : State) (v : BitVec 64) (at_ : Word) :
    (s.setMac v).readByte at_ = s.readByte at_ := rfl
@[simp] theorem State.setMac_isDevice (s : State) (v : BitVec 64) (at_ : Word) :
    (s.setMac v).isDevice at_ = s.isDevice at_ := rfl
@[simp] theorem State.setMac_mapped (s : State) (v : BitVec 64) : (s.setMac v).mapped = s.mapped := rfl
@[simp] theorem State.setMac_surroundings (s : State) (v : BitVec 64) :
    (s.setMac v).surroundings = s.surroundings := rfl
@[simp] theorem State.setMac_system (s : State) (v : BitVec 64) :
    (s.setMac v).system = { s.system with mach := v.extractLsb' 32 32, macl := v.extractLsb' 0 32 } := rfl

/-! ### `State.setMach` -/

@[simp] theorem State.setMach_gpr (s : State) (v : Word) : (s.setMach v).gpr = s.gpr := rfl
@[simp] theorem State.setMach_sr (s : State) (v : Word) : (s.setMach v).sr = s.sr := rfl
@[simp] theorem State.setMach_gbr (s : State) (v : Word) : (s.setMach v).gbr = s.gbr := rfl
@[simp] theorem State.setMach_vbr (s : State) (v : Word) : (s.setMach v).vbr = s.vbr := rfl
@[simp] theorem State.setMach_ssr (s : State) (v : Word) : (s.setMach v).ssr = s.ssr := rfl
@[simp] theorem State.setMach_spc (s : State) (v : Word) : (s.setMach v).spc = s.spc := rfl
@[simp] theorem State.setMach_mach (s : State) (v : Word) : (s.setMach v).mach = v := rfl
@[simp] theorem State.setMach_macl (s : State) (v : Word) : (s.setMach v).macl = s.macl := rfl
@[simp] theorem State.setMach_pr (s : State) (v : Word) : (s.setMach v).pr = s.pr := rfl
@[simp] theorem State.setMach_pc (s : State) (v : Word) : (s.setMach v).pc = s.pc := rfl
@[simp] theorem State.setMach_expevt (s : State) (v : Word) : (s.setMach v).expevt = s.expevt := rfl
@[simp] theorem State.setMach_tra (s : State) (v : Word) : (s.setMach v).tra = s.tra := rfl
@[simp] theorem State.setMach_intevt (s : State) (v : Word) : (s.setMach v).intevt = s.intevt := rfl
@[simp] theorem State.setMach_pteh (s : State) (v : Word) : (s.setMach v).pteh = s.pteh := rfl
@[simp] theorem State.setMach_ptel (s : State) (v : Word) : (s.setMach v).ptel = s.ptel := rfl
@[simp] theorem State.setMach_mmucr (s : State) (v : Word) : (s.setMach v).mmucr = s.mmucr := rfl
@[simp] theorem State.setMach_stbcr (s : State) (v : Word) : (s.setMach v).stbcr = s.stbcr := rfl
@[simp] theorem State.setMach_tlb (s : State) (v : Word) : (s.setMach v).tlb = s.tlb := rfl
@[simp] theorem State.setMach_mem (s : State) (v : Word) : (s.setMach v).mem = s.mem := rfl
@[simp] theorem State.setMach_littleEndian (s : State) (v : Word) :
    (s.setMach v).littleEndian = s.littleEndian := rfl
@[simp] theorem State.setMach_md5 (s : State) (v : Word) : (s.setMach v).md5 = s.md5 := rfl
@[simp] theorem State.setMach_pending (s : State) (v : Word) : (s.setMach v).pending = s.pending := rfl
@[simp] theorem State.setMach_mode (s : State) (v : Word) : (s.setMach v).mode = s.mode := rfl
@[simp] theorem State.setMach_memMap (s : State) (v : Word) : (s.setMach v).memMap = s.memMap := rfl
@[simp] theorem State.setMach_platform (s : State) (v : Word) : (s.setMach v).platform = s.platform := rfl
@[simp] theorem State.setMach_deviceIn (s : State) (v : Word) : (s.setMach v).deviceIn = s.deviceIn := rfl
@[simp] theorem State.setMach_deviceOut (s : State) (v : Word) : (s.setMach v).deviceOut = s.deviceOut := rfl
@[simp] theorem State.setMach_inputs (s : State) (v : Word) : (s.setMach v).inputs = s.inputs := rfl
@[simp] theorem State.setMach_freeCount (s : State) (v : Word) : (s.setMach v).freeCount = s.freeCount := rfl
@[simp] theorem State.setMach_readByte (s : State) (v : Word) (at_ : Word) :
    (s.setMach v).readByte at_ = s.readByte at_ := rfl
@[simp] theorem State.setMach_isDevice (s : State) (v : Word) (at_ : Word) :
    (s.setMach v).isDevice at_ = s.isDevice at_ := rfl
@[simp] theorem State.setMach_mapped (s : State) (v : Word) : (s.setMach v).mapped = s.mapped := rfl
@[simp] theorem State.setMach_surroundings (s : State) (v : Word) :
    (s.setMach v).surroundings = s.surroundings := rfl
@[simp] theorem State.setMach_system (s : State) (v : Word) :
    (s.setMach v).system = { s.system with mach := v } := rfl

/-! ### `State.setMacl` -/

@[simp] theorem State.setMacl_gpr (s : State) (v : Word) : (s.setMacl v).gpr = s.gpr := rfl
@[simp] theorem State.setMacl_sr (s : State) (v : Word) : (s.setMacl v).sr = s.sr := rfl
@[simp] theorem State.setMacl_gbr (s : State) (v : Word) : (s.setMacl v).gbr = s.gbr := rfl
@[simp] theorem State.setMacl_vbr (s : State) (v : Word) : (s.setMacl v).vbr = s.vbr := rfl
@[simp] theorem State.setMacl_ssr (s : State) (v : Word) : (s.setMacl v).ssr = s.ssr := rfl
@[simp] theorem State.setMacl_spc (s : State) (v : Word) : (s.setMacl v).spc = s.spc := rfl
@[simp] theorem State.setMacl_mach (s : State) (v : Word) : (s.setMacl v).mach = s.mach := rfl
@[simp] theorem State.setMacl_macl (s : State) (v : Word) : (s.setMacl v).macl = v := rfl
@[simp] theorem State.setMacl_pr (s : State) (v : Word) : (s.setMacl v).pr = s.pr := rfl
@[simp] theorem State.setMacl_pc (s : State) (v : Word) : (s.setMacl v).pc = s.pc := rfl
@[simp] theorem State.setMacl_expevt (s : State) (v : Word) : (s.setMacl v).expevt = s.expevt := rfl
@[simp] theorem State.setMacl_tra (s : State) (v : Word) : (s.setMacl v).tra = s.tra := rfl
@[simp] theorem State.setMacl_intevt (s : State) (v : Word) : (s.setMacl v).intevt = s.intevt := rfl
@[simp] theorem State.setMacl_pteh (s : State) (v : Word) : (s.setMacl v).pteh = s.pteh := rfl
@[simp] theorem State.setMacl_ptel (s : State) (v : Word) : (s.setMacl v).ptel = s.ptel := rfl
@[simp] theorem State.setMacl_mmucr (s : State) (v : Word) : (s.setMacl v).mmucr = s.mmucr := rfl
@[simp] theorem State.setMacl_stbcr (s : State) (v : Word) : (s.setMacl v).stbcr = s.stbcr := rfl
@[simp] theorem State.setMacl_tlb (s : State) (v : Word) : (s.setMacl v).tlb = s.tlb := rfl
@[simp] theorem State.setMacl_mem (s : State) (v : Word) : (s.setMacl v).mem = s.mem := rfl
@[simp] theorem State.setMacl_littleEndian (s : State) (v : Word) :
    (s.setMacl v).littleEndian = s.littleEndian := rfl
@[simp] theorem State.setMacl_md5 (s : State) (v : Word) : (s.setMacl v).md5 = s.md5 := rfl
@[simp] theorem State.setMacl_pending (s : State) (v : Word) : (s.setMacl v).pending = s.pending := rfl
@[simp] theorem State.setMacl_mode (s : State) (v : Word) : (s.setMacl v).mode = s.mode := rfl
@[simp] theorem State.setMacl_memMap (s : State) (v : Word) : (s.setMacl v).memMap = s.memMap := rfl
@[simp] theorem State.setMacl_platform (s : State) (v : Word) : (s.setMacl v).platform = s.platform := rfl
@[simp] theorem State.setMacl_deviceIn (s : State) (v : Word) : (s.setMacl v).deviceIn = s.deviceIn := rfl
@[simp] theorem State.setMacl_deviceOut (s : State) (v : Word) : (s.setMacl v).deviceOut = s.deviceOut := rfl
@[simp] theorem State.setMacl_inputs (s : State) (v : Word) : (s.setMacl v).inputs = s.inputs := rfl
@[simp] theorem State.setMacl_freeCount (s : State) (v : Word) : (s.setMacl v).freeCount = s.freeCount := rfl
@[simp] theorem State.setMacl_readByte (s : State) (v : Word) (at_ : Word) :
    (s.setMacl v).readByte at_ = s.readByte at_ := rfl
@[simp] theorem State.setMacl_isDevice (s : State) (v : Word) (at_ : Word) :
    (s.setMacl v).isDevice at_ = s.isDevice at_ := rfl
@[simp] theorem State.setMacl_mapped (s : State) (v : Word) : (s.setMacl v).mapped = s.mapped := rfl
@[simp] theorem State.setMacl_surroundings (s : State) (v : Word) :
    (s.setMacl v).surroundings = s.surroundings := rfl
@[simp] theorem State.setMacl_system (s : State) (v : Word) :
    (s.setMacl v).system = { s.system with macl := v } := rfl

/-! ### `State.setPr` -/

@[simp] theorem State.setPr_gpr (s : State) (v : Word) : (s.setPr v).gpr = s.gpr := rfl
@[simp] theorem State.setPr_sr (s : State) (v : Word) : (s.setPr v).sr = s.sr := rfl
@[simp] theorem State.setPr_gbr (s : State) (v : Word) : (s.setPr v).gbr = s.gbr := rfl
@[simp] theorem State.setPr_vbr (s : State) (v : Word) : (s.setPr v).vbr = s.vbr := rfl
@[simp] theorem State.setPr_ssr (s : State) (v : Word) : (s.setPr v).ssr = s.ssr := rfl
@[simp] theorem State.setPr_spc (s : State) (v : Word) : (s.setPr v).spc = s.spc := rfl
@[simp] theorem State.setPr_mach (s : State) (v : Word) : (s.setPr v).mach = s.mach := rfl
@[simp] theorem State.setPr_macl (s : State) (v : Word) : (s.setPr v).macl = s.macl := rfl
@[simp] theorem State.setPr_pr (s : State) (v : Word) : (s.setPr v).pr = v := rfl
@[simp] theorem State.setPr_pc (s : State) (v : Word) : (s.setPr v).pc = s.pc := rfl
@[simp] theorem State.setPr_expevt (s : State) (v : Word) : (s.setPr v).expevt = s.expevt := rfl
@[simp] theorem State.setPr_tra (s : State) (v : Word) : (s.setPr v).tra = s.tra := rfl
@[simp] theorem State.setPr_intevt (s : State) (v : Word) : (s.setPr v).intevt = s.intevt := rfl
@[simp] theorem State.setPr_pteh (s : State) (v : Word) : (s.setPr v).pteh = s.pteh := rfl
@[simp] theorem State.setPr_ptel (s : State) (v : Word) : (s.setPr v).ptel = s.ptel := rfl
@[simp] theorem State.setPr_mmucr (s : State) (v : Word) : (s.setPr v).mmucr = s.mmucr := rfl
@[simp] theorem State.setPr_stbcr (s : State) (v : Word) : (s.setPr v).stbcr = s.stbcr := rfl
@[simp] theorem State.setPr_tlb (s : State) (v : Word) : (s.setPr v).tlb = s.tlb := rfl
@[simp] theorem State.setPr_mem (s : State) (v : Word) : (s.setPr v).mem = s.mem := rfl
@[simp] theorem State.setPr_littleEndian (s : State) (v : Word) : (s.setPr v).littleEndian = s.littleEndian := rfl
@[simp] theorem State.setPr_md5 (s : State) (v : Word) : (s.setPr v).md5 = s.md5 := rfl
@[simp] theorem State.setPr_pending (s : State) (v : Word) : (s.setPr v).pending = s.pending := rfl
@[simp] theorem State.setPr_mode (s : State) (v : Word) : (s.setPr v).mode = s.mode := rfl
@[simp] theorem State.setPr_memMap (s : State) (v : Word) : (s.setPr v).memMap = s.memMap := rfl
@[simp] theorem State.setPr_platform (s : State) (v : Word) : (s.setPr v).platform = s.platform := rfl
@[simp] theorem State.setPr_deviceIn (s : State) (v : Word) : (s.setPr v).deviceIn = s.deviceIn := rfl
@[simp] theorem State.setPr_deviceOut (s : State) (v : Word) : (s.setPr v).deviceOut = s.deviceOut := rfl
@[simp] theorem State.setPr_inputs (s : State) (v : Word) : (s.setPr v).inputs = s.inputs := rfl
@[simp] theorem State.setPr_freeCount (s : State) (v : Word) : (s.setPr v).freeCount = s.freeCount := rfl
@[simp] theorem State.setPr_readByte (s : State) (v : Word) (at_ : Word) :
    (s.setPr v).readByte at_ = s.readByte at_ := rfl
@[simp] theorem State.setPr_isDevice (s : State) (v : Word) (at_ : Word) :
    (s.setPr v).isDevice at_ = s.isDevice at_ := rfl
@[simp] theorem State.setPr_mapped (s : State) (v : Word) : (s.setPr v).mapped = s.mapped := rfl
@[simp] theorem State.setPr_surroundings (s : State) (v : Word) : (s.setPr v).surroundings = s.surroundings := rfl
@[simp] theorem State.setPr_system (s : State) (v : Word) : (s.setPr v).system = { s.system with pr := v } := rfl

/-! ### `State.setGbr` -/

@[simp] theorem State.setGbr_gpr (s : State) (v : Word) : (s.setGbr v).gpr = s.gpr := rfl
@[simp] theorem State.setGbr_sr (s : State) (v : Word) : (s.setGbr v).sr = s.sr := rfl
@[simp] theorem State.setGbr_gbr (s : State) (v : Word) : (s.setGbr v).gbr = v := rfl
@[simp] theorem State.setGbr_vbr (s : State) (v : Word) : (s.setGbr v).vbr = s.vbr := rfl
@[simp] theorem State.setGbr_ssr (s : State) (v : Word) : (s.setGbr v).ssr = s.ssr := rfl
@[simp] theorem State.setGbr_spc (s : State) (v : Word) : (s.setGbr v).spc = s.spc := rfl
@[simp] theorem State.setGbr_mach (s : State) (v : Word) : (s.setGbr v).mach = s.mach := rfl
@[simp] theorem State.setGbr_macl (s : State) (v : Word) : (s.setGbr v).macl = s.macl := rfl
@[simp] theorem State.setGbr_pr (s : State) (v : Word) : (s.setGbr v).pr = s.pr := rfl
@[simp] theorem State.setGbr_pc (s : State) (v : Word) : (s.setGbr v).pc = s.pc := rfl
@[simp] theorem State.setGbr_expevt (s : State) (v : Word) : (s.setGbr v).expevt = s.expevt := rfl
@[simp] theorem State.setGbr_tra (s : State) (v : Word) : (s.setGbr v).tra = s.tra := rfl
@[simp] theorem State.setGbr_intevt (s : State) (v : Word) : (s.setGbr v).intevt = s.intevt := rfl
@[simp] theorem State.setGbr_pteh (s : State) (v : Word) : (s.setGbr v).pteh = s.pteh := rfl
@[simp] theorem State.setGbr_ptel (s : State) (v : Word) : (s.setGbr v).ptel = s.ptel := rfl
@[simp] theorem State.setGbr_mmucr (s : State) (v : Word) : (s.setGbr v).mmucr = s.mmucr := rfl
@[simp] theorem State.setGbr_stbcr (s : State) (v : Word) : (s.setGbr v).stbcr = s.stbcr := rfl
@[simp] theorem State.setGbr_tlb (s : State) (v : Word) : (s.setGbr v).tlb = s.tlb := rfl
@[simp] theorem State.setGbr_mem (s : State) (v : Word) : (s.setGbr v).mem = s.mem := rfl
@[simp] theorem State.setGbr_littleEndian (s : State) (v : Word) :
    (s.setGbr v).littleEndian = s.littleEndian := rfl
@[simp] theorem State.setGbr_md5 (s : State) (v : Word) : (s.setGbr v).md5 = s.md5 := rfl
@[simp] theorem State.setGbr_pending (s : State) (v : Word) : (s.setGbr v).pending = s.pending := rfl
@[simp] theorem State.setGbr_mode (s : State) (v : Word) : (s.setGbr v).mode = s.mode := rfl
@[simp] theorem State.setGbr_memMap (s : State) (v : Word) : (s.setGbr v).memMap = s.memMap := rfl
@[simp] theorem State.setGbr_platform (s : State) (v : Word) : (s.setGbr v).platform = s.platform := rfl
@[simp] theorem State.setGbr_deviceIn (s : State) (v : Word) : (s.setGbr v).deviceIn = s.deviceIn := rfl
@[simp] theorem State.setGbr_deviceOut (s : State) (v : Word) : (s.setGbr v).deviceOut = s.deviceOut := rfl
@[simp] theorem State.setGbr_inputs (s : State) (v : Word) : (s.setGbr v).inputs = s.inputs := rfl
@[simp] theorem State.setGbr_freeCount (s : State) (v : Word) : (s.setGbr v).freeCount = s.freeCount := rfl
@[simp] theorem State.setGbr_readByte (s : State) (v : Word) (at_ : Word) :
    (s.setGbr v).readByte at_ = s.readByte at_ := rfl
@[simp] theorem State.setGbr_isDevice (s : State) (v : Word) (at_ : Word) :
    (s.setGbr v).isDevice at_ = s.isDevice at_ := rfl
@[simp] theorem State.setGbr_mapped (s : State) (v : Word) : (s.setGbr v).mapped = s.mapped := rfl
@[simp] theorem State.setGbr_surroundings (s : State) (v : Word) :
    (s.setGbr v).surroundings = s.surroundings := rfl
@[simp] theorem State.setGbr_system (s : State) (v : Word) :
    (s.setGbr v).system = { s.system with gbr := v } := rfl

/-! ### `State.setVbr` -/

@[simp] theorem State.setVbr_gpr (s : State) (v : Word) : (s.setVbr v).gpr = s.gpr := rfl
@[simp] theorem State.setVbr_sr (s : State) (v : Word) : (s.setVbr v).sr = s.sr := rfl
@[simp] theorem State.setVbr_gbr (s : State) (v : Word) : (s.setVbr v).gbr = s.gbr := rfl
@[simp] theorem State.setVbr_vbr (s : State) (v : Word) : (s.setVbr v).vbr = v := rfl
@[simp] theorem State.setVbr_ssr (s : State) (v : Word) : (s.setVbr v).ssr = s.ssr := rfl
@[simp] theorem State.setVbr_spc (s : State) (v : Word) : (s.setVbr v).spc = s.spc := rfl
@[simp] theorem State.setVbr_mach (s : State) (v : Word) : (s.setVbr v).mach = s.mach := rfl
@[simp] theorem State.setVbr_macl (s : State) (v : Word) : (s.setVbr v).macl = s.macl := rfl
@[simp] theorem State.setVbr_pr (s : State) (v : Word) : (s.setVbr v).pr = s.pr := rfl
@[simp] theorem State.setVbr_pc (s : State) (v : Word) : (s.setVbr v).pc = s.pc := rfl
@[simp] theorem State.setVbr_expevt (s : State) (v : Word) : (s.setVbr v).expevt = s.expevt := rfl
@[simp] theorem State.setVbr_tra (s : State) (v : Word) : (s.setVbr v).tra = s.tra := rfl
@[simp] theorem State.setVbr_intevt (s : State) (v : Word) : (s.setVbr v).intevt = s.intevt := rfl
@[simp] theorem State.setVbr_pteh (s : State) (v : Word) : (s.setVbr v).pteh = s.pteh := rfl
@[simp] theorem State.setVbr_ptel (s : State) (v : Word) : (s.setVbr v).ptel = s.ptel := rfl
@[simp] theorem State.setVbr_mmucr (s : State) (v : Word) : (s.setVbr v).mmucr = s.mmucr := rfl
@[simp] theorem State.setVbr_stbcr (s : State) (v : Word) : (s.setVbr v).stbcr = s.stbcr := rfl
@[simp] theorem State.setVbr_tlb (s : State) (v : Word) : (s.setVbr v).tlb = s.tlb := rfl
@[simp] theorem State.setVbr_mem (s : State) (v : Word) : (s.setVbr v).mem = s.mem := rfl
@[simp] theorem State.setVbr_littleEndian (s : State) (v : Word) :
    (s.setVbr v).littleEndian = s.littleEndian := rfl
@[simp] theorem State.setVbr_md5 (s : State) (v : Word) : (s.setVbr v).md5 = s.md5 := rfl
@[simp] theorem State.setVbr_pending (s : State) (v : Word) : (s.setVbr v).pending = s.pending := rfl
@[simp] theorem State.setVbr_mode (s : State) (v : Word) : (s.setVbr v).mode = s.mode := rfl
@[simp] theorem State.setVbr_memMap (s : State) (v : Word) : (s.setVbr v).memMap = s.memMap := rfl
@[simp] theorem State.setVbr_platform (s : State) (v : Word) : (s.setVbr v).platform = s.platform := rfl
@[simp] theorem State.setVbr_deviceIn (s : State) (v : Word) : (s.setVbr v).deviceIn = s.deviceIn := rfl
@[simp] theorem State.setVbr_deviceOut (s : State) (v : Word) : (s.setVbr v).deviceOut = s.deviceOut := rfl
@[simp] theorem State.setVbr_inputs (s : State) (v : Word) : (s.setVbr v).inputs = s.inputs := rfl
@[simp] theorem State.setVbr_freeCount (s : State) (v : Word) : (s.setVbr v).freeCount = s.freeCount := rfl
@[simp] theorem State.setVbr_readByte (s : State) (v : Word) (at_ : Word) :
    (s.setVbr v).readByte at_ = s.readByte at_ := rfl
@[simp] theorem State.setVbr_isDevice (s : State) (v : Word) (at_ : Word) :
    (s.setVbr v).isDevice at_ = s.isDevice at_ := rfl
@[simp] theorem State.setVbr_mapped (s : State) (v : Word) : (s.setVbr v).mapped = s.mapped := rfl
@[simp] theorem State.setVbr_surroundings (s : State) (v : Word) :
    (s.setVbr v).surroundings = s.surroundings := rfl
@[simp] theorem State.setVbr_system (s : State) (v : Word) :
    (s.setVbr v).system = { s.system with vbr := v } := rfl

/-! ### `State.setSsr` -/

@[simp] theorem State.setSsr_gpr (s : State) (v : Word) : (s.setSsr v).gpr = s.gpr := rfl
@[simp] theorem State.setSsr_sr (s : State) (v : Word) : (s.setSsr v).sr = s.sr := rfl
@[simp] theorem State.setSsr_gbr (s : State) (v : Word) : (s.setSsr v).gbr = s.gbr := rfl
@[simp] theorem State.setSsr_vbr (s : State) (v : Word) : (s.setSsr v).vbr = s.vbr := rfl
@[simp] theorem State.setSsr_ssr (s : State) (v : Word) : (s.setSsr v).ssr = v := rfl
@[simp] theorem State.setSsr_spc (s : State) (v : Word) : (s.setSsr v).spc = s.spc := rfl
@[simp] theorem State.setSsr_mach (s : State) (v : Word) : (s.setSsr v).mach = s.mach := rfl
@[simp] theorem State.setSsr_macl (s : State) (v : Word) : (s.setSsr v).macl = s.macl := rfl
@[simp] theorem State.setSsr_pr (s : State) (v : Word) : (s.setSsr v).pr = s.pr := rfl
@[simp] theorem State.setSsr_pc (s : State) (v : Word) : (s.setSsr v).pc = s.pc := rfl
@[simp] theorem State.setSsr_expevt (s : State) (v : Word) : (s.setSsr v).expevt = s.expevt := rfl
@[simp] theorem State.setSsr_tra (s : State) (v : Word) : (s.setSsr v).tra = s.tra := rfl
@[simp] theorem State.setSsr_intevt (s : State) (v : Word) : (s.setSsr v).intevt = s.intevt := rfl
@[simp] theorem State.setSsr_pteh (s : State) (v : Word) : (s.setSsr v).pteh = s.pteh := rfl
@[simp] theorem State.setSsr_ptel (s : State) (v : Word) : (s.setSsr v).ptel = s.ptel := rfl
@[simp] theorem State.setSsr_mmucr (s : State) (v : Word) : (s.setSsr v).mmucr = s.mmucr := rfl
@[simp] theorem State.setSsr_stbcr (s : State) (v : Word) : (s.setSsr v).stbcr = s.stbcr := rfl
@[simp] theorem State.setSsr_tlb (s : State) (v : Word) : (s.setSsr v).tlb = s.tlb := rfl
@[simp] theorem State.setSsr_mem (s : State) (v : Word) : (s.setSsr v).mem = s.mem := rfl
@[simp] theorem State.setSsr_littleEndian (s : State) (v : Word) :
    (s.setSsr v).littleEndian = s.littleEndian := rfl
@[simp] theorem State.setSsr_md5 (s : State) (v : Word) : (s.setSsr v).md5 = s.md5 := rfl
@[simp] theorem State.setSsr_pending (s : State) (v : Word) : (s.setSsr v).pending = s.pending := rfl
@[simp] theorem State.setSsr_mode (s : State) (v : Word) : (s.setSsr v).mode = s.mode := rfl
@[simp] theorem State.setSsr_memMap (s : State) (v : Word) : (s.setSsr v).memMap = s.memMap := rfl
@[simp] theorem State.setSsr_platform (s : State) (v : Word) : (s.setSsr v).platform = s.platform := rfl
@[simp] theorem State.setSsr_deviceIn (s : State) (v : Word) : (s.setSsr v).deviceIn = s.deviceIn := rfl
@[simp] theorem State.setSsr_deviceOut (s : State) (v : Word) : (s.setSsr v).deviceOut = s.deviceOut := rfl
@[simp] theorem State.setSsr_inputs (s : State) (v : Word) : (s.setSsr v).inputs = s.inputs := rfl
@[simp] theorem State.setSsr_freeCount (s : State) (v : Word) : (s.setSsr v).freeCount = s.freeCount := rfl
@[simp] theorem State.setSsr_readByte (s : State) (v : Word) (at_ : Word) :
    (s.setSsr v).readByte at_ = s.readByte at_ := rfl
@[simp] theorem State.setSsr_isDevice (s : State) (v : Word) (at_ : Word) :
    (s.setSsr v).isDevice at_ = s.isDevice at_ := rfl
@[simp] theorem State.setSsr_mapped (s : State) (v : Word) : (s.setSsr v).mapped = s.mapped := rfl
@[simp] theorem State.setSsr_surroundings (s : State) (v : Word) :
    (s.setSsr v).surroundings = s.surroundings := rfl
@[simp] theorem State.setSsr_system (s : State) (v : Word) :
    (s.setSsr v).system = { s.system with ssr := v } := rfl

/-! ### `State.setSpc` -/

@[simp] theorem State.setSpc_gpr (s : State) (v : Word) : (s.setSpc v).gpr = s.gpr := rfl
@[simp] theorem State.setSpc_sr (s : State) (v : Word) : (s.setSpc v).sr = s.sr := rfl
@[simp] theorem State.setSpc_gbr (s : State) (v : Word) : (s.setSpc v).gbr = s.gbr := rfl
@[simp] theorem State.setSpc_vbr (s : State) (v : Word) : (s.setSpc v).vbr = s.vbr := rfl
@[simp] theorem State.setSpc_ssr (s : State) (v : Word) : (s.setSpc v).ssr = s.ssr := rfl
@[simp] theorem State.setSpc_spc (s : State) (v : Word) : (s.setSpc v).spc = v := rfl
@[simp] theorem State.setSpc_mach (s : State) (v : Word) : (s.setSpc v).mach = s.mach := rfl
@[simp] theorem State.setSpc_macl (s : State) (v : Word) : (s.setSpc v).macl = s.macl := rfl
@[simp] theorem State.setSpc_pr (s : State) (v : Word) : (s.setSpc v).pr = s.pr := rfl
@[simp] theorem State.setSpc_pc (s : State) (v : Word) : (s.setSpc v).pc = s.pc := rfl
@[simp] theorem State.setSpc_expevt (s : State) (v : Word) : (s.setSpc v).expevt = s.expevt := rfl
@[simp] theorem State.setSpc_tra (s : State) (v : Word) : (s.setSpc v).tra = s.tra := rfl
@[simp] theorem State.setSpc_intevt (s : State) (v : Word) : (s.setSpc v).intevt = s.intevt := rfl
@[simp] theorem State.setSpc_pteh (s : State) (v : Word) : (s.setSpc v).pteh = s.pteh := rfl
@[simp] theorem State.setSpc_ptel (s : State) (v : Word) : (s.setSpc v).ptel = s.ptel := rfl
@[simp] theorem State.setSpc_mmucr (s : State) (v : Word) : (s.setSpc v).mmucr = s.mmucr := rfl
@[simp] theorem State.setSpc_stbcr (s : State) (v : Word) : (s.setSpc v).stbcr = s.stbcr := rfl
@[simp] theorem State.setSpc_tlb (s : State) (v : Word) : (s.setSpc v).tlb = s.tlb := rfl
@[simp] theorem State.setSpc_mem (s : State) (v : Word) : (s.setSpc v).mem = s.mem := rfl
@[simp] theorem State.setSpc_littleEndian (s : State) (v : Word) :
    (s.setSpc v).littleEndian = s.littleEndian := rfl
@[simp] theorem State.setSpc_md5 (s : State) (v : Word) : (s.setSpc v).md5 = s.md5 := rfl
@[simp] theorem State.setSpc_pending (s : State) (v : Word) : (s.setSpc v).pending = s.pending := rfl
@[simp] theorem State.setSpc_mode (s : State) (v : Word) : (s.setSpc v).mode = s.mode := rfl
@[simp] theorem State.setSpc_memMap (s : State) (v : Word) : (s.setSpc v).memMap = s.memMap := rfl
@[simp] theorem State.setSpc_platform (s : State) (v : Word) : (s.setSpc v).platform = s.platform := rfl
@[simp] theorem State.setSpc_deviceIn (s : State) (v : Word) : (s.setSpc v).deviceIn = s.deviceIn := rfl
@[simp] theorem State.setSpc_deviceOut (s : State) (v : Word) : (s.setSpc v).deviceOut = s.deviceOut := rfl
@[simp] theorem State.setSpc_inputs (s : State) (v : Word) : (s.setSpc v).inputs = s.inputs := rfl
@[simp] theorem State.setSpc_freeCount (s : State) (v : Word) : (s.setSpc v).freeCount = s.freeCount := rfl
@[simp] theorem State.setSpc_readByte (s : State) (v : Word) (at_ : Word) :
    (s.setSpc v).readByte at_ = s.readByte at_ := rfl
@[simp] theorem State.setSpc_isDevice (s : State) (v : Word) (at_ : Word) :
    (s.setSpc v).isDevice at_ = s.isDevice at_ := rfl
@[simp] theorem State.setSpc_mapped (s : State) (v : Word) : (s.setSpc v).mapped = s.mapped := rfl
@[simp] theorem State.setSpc_surroundings (s : State) (v : Word) :
    (s.setSpc v).surroundings = s.surroundings := rfl
@[simp] theorem State.setSpc_system (s : State) (v : Word) :
    (s.setSpc v).system = { s.system with spc := v } := rfl

/-! ### `State.advance` -/

@[simp] theorem State.advance_gpr (s : State) : (s.advance).gpr = s.gpr := rfl
@[simp] theorem State.advance_sr (s : State) : (s.advance).sr = s.sr := rfl
@[simp] theorem State.advance_gbr (s : State) : (s.advance).gbr = s.gbr := rfl
@[simp] theorem State.advance_vbr (s : State) : (s.advance).vbr = s.vbr := rfl
@[simp] theorem State.advance_ssr (s : State) : (s.advance).ssr = s.ssr := rfl
@[simp] theorem State.advance_spc (s : State) : (s.advance).spc = s.spc := rfl
@[simp] theorem State.advance_mach (s : State) : (s.advance).mach = s.mach := rfl
@[simp] theorem State.advance_macl (s : State) : (s.advance).macl = s.macl := rfl
@[simp] theorem State.advance_pr (s : State) : (s.advance).pr = s.pr := rfl
@[simp] theorem State.advance_pc (s : State) : (s.advance).pc = s.pending.getD (s.pc + 2#32) := rfl
@[simp] theorem State.advance_expevt (s : State) : (s.advance).expevt = s.expevt := rfl
@[simp] theorem State.advance_tra (s : State) : (s.advance).tra = s.tra := rfl
@[simp] theorem State.advance_intevt (s : State) : (s.advance).intevt = s.intevt := rfl
@[simp] theorem State.advance_pteh (s : State) : (s.advance).pteh = s.pteh := rfl
@[simp] theorem State.advance_ptel (s : State) : (s.advance).ptel = s.ptel := rfl
@[simp] theorem State.advance_mmucr (s : State) : (s.advance).mmucr = s.mmucr := rfl
@[simp] theorem State.advance_stbcr (s : State) : (s.advance).stbcr = s.stbcr := rfl
@[simp] theorem State.advance_tlb (s : State) : (s.advance).tlb = s.tlb := rfl
@[simp] theorem State.advance_mem (s : State) : (s.advance).mem = s.mem := rfl
@[simp] theorem State.advance_littleEndian (s : State) : (s.advance).littleEndian = s.littleEndian := rfl
@[simp] theorem State.advance_md5 (s : State) : (s.advance).md5 = s.md5 := rfl
@[simp] theorem State.advance_pending (s : State) : (s.advance).pending = none := rfl
@[simp] theorem State.advance_mode (s : State) : (s.advance).mode = s.mode := rfl
@[simp] theorem State.advance_memMap (s : State) : (s.advance).memMap = s.memMap := rfl
@[simp] theorem State.advance_platform (s : State) : (s.advance).platform = s.platform := rfl
@[simp] theorem State.advance_deviceIn (s : State) : (s.advance).deviceIn = s.deviceIn := rfl
@[simp] theorem State.advance_deviceOut (s : State) : (s.advance).deviceOut = s.deviceOut := rfl
@[simp] theorem State.advance_inputs (s : State) : (s.advance).inputs = s.inputs := rfl
@[simp] theorem State.advance_freeCount (s : State) : (s.advance).freeCount = s.freeCount := rfl
@[simp] theorem State.advance_readByte (s : State) (at_ : Word) : (s.advance).readByte at_ = s.readByte at_ := rfl
@[simp] theorem State.advance_isDevice (s : State) (at_ : Word) : (s.advance).isDevice at_ = s.isDevice at_ := rfl
@[simp] theorem State.advance_mapped (s : State) : (s.advance).mapped = s.mapped := rfl
@[simp] theorem State.advance_surroundings (s : State) : (s.advance).surroundings = s.surroundings := rfl
@[simp] theorem State.advance_system (s : State) : (s.advance).system = s.system := rfl

/-! ### `State.delayedBranch` -/

@[simp] theorem State.delayedBranch_gpr (s : State) (target : Word) : (s.delayedBranch target).gpr = s.gpr := rfl
@[simp] theorem State.delayedBranch_sr (s : State) (target : Word) : (s.delayedBranch target).sr = s.sr := rfl
@[simp] theorem State.delayedBranch_gbr (s : State) (target : Word) : (s.delayedBranch target).gbr = s.gbr := rfl
@[simp] theorem State.delayedBranch_vbr (s : State) (target : Word) : (s.delayedBranch target).vbr = s.vbr := rfl
@[simp] theorem State.delayedBranch_ssr (s : State) (target : Word) : (s.delayedBranch target).ssr = s.ssr := rfl
@[simp] theorem State.delayedBranch_spc (s : State) (target : Word) : (s.delayedBranch target).spc = s.spc := rfl
@[simp] theorem State.delayedBranch_mach (s : State) (target : Word) :
    (s.delayedBranch target).mach = s.mach := rfl
@[simp] theorem State.delayedBranch_macl (s : State) (target : Word) :
    (s.delayedBranch target).macl = s.macl := rfl
@[simp] theorem State.delayedBranch_pr (s : State) (target : Word) : (s.delayedBranch target).pr = s.pr := rfl
@[simp] theorem State.delayedBranch_pc (s : State) (target : Word) :
    (s.delayedBranch target).pc = s.pc + 2#32 := rfl
@[simp] theorem State.delayedBranch_expevt (s : State) (target : Word) :
    (s.delayedBranch target).expevt = s.expevt := rfl
@[simp] theorem State.delayedBranch_tra (s : State) (target : Word) : (s.delayedBranch target).tra = s.tra := rfl
@[simp] theorem State.delayedBranch_intevt (s : State) (target : Word) :
    (s.delayedBranch target).intevt = s.intevt := rfl
@[simp] theorem State.delayedBranch_pteh (s : State) (target : Word) :
    (s.delayedBranch target).pteh = s.pteh := rfl
@[simp] theorem State.delayedBranch_ptel (s : State) (target : Word) :
    (s.delayedBranch target).ptel = s.ptel := rfl
@[simp] theorem State.delayedBranch_mmucr (s : State) (target : Word) :
    (s.delayedBranch target).mmucr = s.mmucr := rfl
@[simp] theorem State.delayedBranch_stbcr (s : State) (target : Word) :
    (s.delayedBranch target).stbcr = s.stbcr := rfl
@[simp] theorem State.delayedBranch_tlb (s : State) (target : Word) : (s.delayedBranch target).tlb = s.tlb := rfl
@[simp] theorem State.delayedBranch_mem (s : State) (target : Word) : (s.delayedBranch target).mem = s.mem := rfl
@[simp] theorem State.delayedBranch_littleEndian (s : State) (target : Word) :
    (s.delayedBranch target).littleEndian = s.littleEndian := rfl
@[simp] theorem State.delayedBranch_md5 (s : State) (target : Word) : (s.delayedBranch target).md5 = s.md5 := rfl
@[simp] theorem State.delayedBranch_pending (s : State) (target : Word) :
    (s.delayedBranch target).pending = some target := rfl
@[simp] theorem State.delayedBranch_mode (s : State) (target : Word) :
    (s.delayedBranch target).mode = s.mode := rfl
@[simp] theorem State.delayedBranch_memMap (s : State) (target : Word) :
    (s.delayedBranch target).memMap = s.memMap := rfl
@[simp] theorem State.delayedBranch_platform (s : State) (target : Word) :
    (s.delayedBranch target).platform = s.platform := rfl
@[simp] theorem State.delayedBranch_deviceIn (s : State) (target : Word) :
    (s.delayedBranch target).deviceIn = s.deviceIn := rfl
@[simp] theorem State.delayedBranch_deviceOut (s : State) (target : Word) :
    (s.delayedBranch target).deviceOut = s.deviceOut := rfl
@[simp] theorem State.delayedBranch_inputs (s : State) (target : Word) :
    (s.delayedBranch target).inputs = s.inputs := rfl
@[simp] theorem State.delayedBranch_freeCount (s : State) (target : Word) :
    (s.delayedBranch target).freeCount = s.freeCount := rfl
@[simp] theorem State.delayedBranch_readByte (s : State) (target : Word) (at_ : Word) :
    (s.delayedBranch target).readByte at_ = s.readByte at_ := rfl
@[simp] theorem State.delayedBranch_isDevice (s : State) (target : Word) (at_ : Word) :
    (s.delayedBranch target).isDevice at_ = s.isDevice at_ := rfl
@[simp] theorem State.delayedBranch_mapped (s : State) (target : Word) :
    (s.delayedBranch target).mapped = s.mapped := rfl
@[simp] theorem State.delayedBranch_surroundings (s : State) (target : Word) :
    (s.delayedBranch target).surroundings = s.surroundings := rfl
@[simp] theorem State.delayedBranch_system (s : State) (target : Word) :
    (s.delayedBranch target).system = s.system := rfl

/-! ### `State.branch` -/

@[simp] theorem State.branch_gpr (s : State) (target : Word) : (s.branch target).gpr = s.gpr := rfl
@[simp] theorem State.branch_sr (s : State) (target : Word) : (s.branch target).sr = s.sr := rfl
@[simp] theorem State.branch_gbr (s : State) (target : Word) : (s.branch target).gbr = s.gbr := rfl
@[simp] theorem State.branch_vbr (s : State) (target : Word) : (s.branch target).vbr = s.vbr := rfl
@[simp] theorem State.branch_ssr (s : State) (target : Word) : (s.branch target).ssr = s.ssr := rfl
@[simp] theorem State.branch_spc (s : State) (target : Word) : (s.branch target).spc = s.spc := rfl
@[simp] theorem State.branch_mach (s : State) (target : Word) : (s.branch target).mach = s.mach := rfl
@[simp] theorem State.branch_macl (s : State) (target : Word) : (s.branch target).macl = s.macl := rfl
@[simp] theorem State.branch_pr (s : State) (target : Word) : (s.branch target).pr = s.pr := rfl
@[simp] theorem State.branch_pc (s : State) (target : Word) : (s.branch target).pc = target := rfl
@[simp] theorem State.branch_expevt (s : State) (target : Word) : (s.branch target).expevt = s.expevt := rfl
@[simp] theorem State.branch_tra (s : State) (target : Word) : (s.branch target).tra = s.tra := rfl
@[simp] theorem State.branch_intevt (s : State) (target : Word) : (s.branch target).intevt = s.intevt := rfl
@[simp] theorem State.branch_pteh (s : State) (target : Word) : (s.branch target).pteh = s.pteh := rfl
@[simp] theorem State.branch_ptel (s : State) (target : Word) : (s.branch target).ptel = s.ptel := rfl
@[simp] theorem State.branch_mmucr (s : State) (target : Word) : (s.branch target).mmucr = s.mmucr := rfl
@[simp] theorem State.branch_stbcr (s : State) (target : Word) : (s.branch target).stbcr = s.stbcr := rfl
@[simp] theorem State.branch_tlb (s : State) (target : Word) : (s.branch target).tlb = s.tlb := rfl
@[simp] theorem State.branch_mem (s : State) (target : Word) : (s.branch target).mem = s.mem := rfl
@[simp] theorem State.branch_littleEndian (s : State) (target : Word) :
    (s.branch target).littleEndian = s.littleEndian := rfl
@[simp] theorem State.branch_md5 (s : State) (target : Word) : (s.branch target).md5 = s.md5 := rfl
@[simp] theorem State.branch_pending (s : State) (target : Word) : (s.branch target).pending = s.pending := rfl
@[simp] theorem State.branch_mode (s : State) (target : Word) : (s.branch target).mode = s.mode := rfl
@[simp] theorem State.branch_memMap (s : State) (target : Word) : (s.branch target).memMap = s.memMap := rfl
@[simp] theorem State.branch_platform (s : State) (target : Word) : (s.branch target).platform = s.platform := rfl
@[simp] theorem State.branch_deviceIn (s : State) (target : Word) : (s.branch target).deviceIn = s.deviceIn := rfl
@[simp] theorem State.branch_deviceOut (s : State) (target : Word) :
    (s.branch target).deviceOut = s.deviceOut := rfl
@[simp] theorem State.branch_inputs (s : State) (target : Word) : (s.branch target).inputs = s.inputs := rfl
@[simp] theorem State.branch_freeCount (s : State) (target : Word) :
    (s.branch target).freeCount = s.freeCount := rfl
@[simp] theorem State.branch_readByte (s : State) (target : Word) (at_ : Word) :
    (s.branch target).readByte at_ = s.readByte at_ := rfl
@[simp] theorem State.branch_isDevice (s : State) (target : Word) (at_ : Word) :
    (s.branch target).isDevice at_ = s.isDevice at_ := rfl
@[simp] theorem State.branch_mapped (s : State) (target : Word) : (s.branch target).mapped = s.mapped := rfl
@[simp] theorem State.branch_surroundings (s : State) (target : Word) :
    (s.branch target).surroundings = s.surroundings := rfl
@[simp] theorem State.branch_system (s : State) (target : Word) : (s.branch target).system = s.system := rfl

/-! ### `State.loadTlb` -/

@[simp] theorem State.loadTlb_gpr (s : State) : (s.loadTlb).gpr = s.gpr := rfl
@[simp] theorem State.loadTlb_sr (s : State) : (s.loadTlb).sr = s.sr := rfl
@[simp] theorem State.loadTlb_gbr (s : State) : (s.loadTlb).gbr = s.gbr := rfl
@[simp] theorem State.loadTlb_vbr (s : State) : (s.loadTlb).vbr = s.vbr := rfl
@[simp] theorem State.loadTlb_ssr (s : State) : (s.loadTlb).ssr = s.ssr := rfl
@[simp] theorem State.loadTlb_spc (s : State) : (s.loadTlb).spc = s.spc := rfl
@[simp] theorem State.loadTlb_mach (s : State) : (s.loadTlb).mach = s.mach := rfl
@[simp] theorem State.loadTlb_macl (s : State) : (s.loadTlb).macl = s.macl := rfl
@[simp] theorem State.loadTlb_pr (s : State) : (s.loadTlb).pr = s.pr := rfl
@[simp] theorem State.loadTlb_pc (s : State) : (s.loadTlb).pc = s.pc := rfl
@[simp] theorem State.loadTlb_expevt (s : State) : (s.loadTlb).expevt = s.expevt := rfl
@[simp] theorem State.loadTlb_tra (s : State) : (s.loadTlb).tra = s.tra := rfl
@[simp] theorem State.loadTlb_intevt (s : State) : (s.loadTlb).intevt = s.intevt := rfl
@[simp] theorem State.loadTlb_pteh (s : State) : (s.loadTlb).pteh = s.pteh := rfl
@[simp] theorem State.loadTlb_ptel (s : State) : (s.loadTlb).ptel = s.ptel := rfl
@[simp] theorem State.loadTlb_mmucr (s : State) : (s.loadTlb).mmucr = s.mmucr := rfl
@[simp] theorem State.loadTlb_stbcr (s : State) : (s.loadTlb).stbcr = s.stbcr := rfl
@[simp] theorem State.loadTlb_tlb (s : State) :
    (s.loadTlb).tlb = if s.tlbHasEntry then Tlb.write s.tlb s.tlbEntry else s.tlb := rfl
@[simp] theorem State.loadTlb_mem (s : State) : (s.loadTlb).mem = s.mem := rfl
@[simp] theorem State.loadTlb_littleEndian (s : State) : (s.loadTlb).littleEndian = s.littleEndian := rfl
@[simp] theorem State.loadTlb_md5 (s : State) : (s.loadTlb).md5 = s.md5 := rfl
@[simp] theorem State.loadTlb_pending (s : State) : (s.loadTlb).pending = s.pending := rfl
@[simp] theorem State.loadTlb_mode (s : State) : (s.loadTlb).mode = s.mode := rfl
@[simp] theorem State.loadTlb_memMap (s : State) : (s.loadTlb).memMap = s.memMap := rfl
@[simp] theorem State.loadTlb_platform (s : State) : (s.loadTlb).platform = s.platform := rfl
@[simp] theorem State.loadTlb_deviceIn (s : State) : (s.loadTlb).deviceIn = s.deviceIn := rfl
@[simp] theorem State.loadTlb_deviceOut (s : State) : (s.loadTlb).deviceOut = s.deviceOut := rfl
@[simp] theorem State.loadTlb_inputs (s : State) : (s.loadTlb).inputs = s.inputs := rfl
@[simp] theorem State.loadTlb_freeCount (s : State) : (s.loadTlb).freeCount = s.freeCount := rfl
@[simp] theorem State.loadTlb_readByte (s : State) (at_ : Word) : (s.loadTlb).readByte at_ = s.readByte at_ := rfl
@[simp] theorem State.loadTlb_isDevice (s : State) (at_ : Word) : (s.loadTlb).isDevice at_ = s.isDevice at_ := rfl
@[simp] theorem State.loadTlb_mapped (s : State) : (s.loadTlb).mapped = s.mapped := rfl
@[simp] theorem State.loadTlb_system (s : State) : (s.loadTlb).system = s.system := rfl

/-! ### `State.powerDown` -/

@[simp] theorem State.powerDown_gpr (s : State) : (s.powerDown).gpr = s.gpr := rfl
@[simp] theorem State.powerDown_sr (s : State) : (s.powerDown).sr = s.sr := rfl
@[simp] theorem State.powerDown_gbr (s : State) : (s.powerDown).gbr = s.gbr := rfl
@[simp] theorem State.powerDown_vbr (s : State) : (s.powerDown).vbr = s.vbr := rfl
@[simp] theorem State.powerDown_ssr (s : State) : (s.powerDown).ssr = s.ssr := rfl
@[simp] theorem State.powerDown_spc (s : State) : (s.powerDown).spc = s.spc := rfl
@[simp] theorem State.powerDown_mach (s : State) : (s.powerDown).mach = s.mach := rfl
@[simp] theorem State.powerDown_macl (s : State) : (s.powerDown).macl = s.macl := rfl
@[simp] theorem State.powerDown_pr (s : State) : (s.powerDown).pr = s.pr := rfl
@[simp] theorem State.powerDown_pc (s : State) : (s.powerDown).pc = s.pc := rfl
@[simp] theorem State.powerDown_expevt (s : State) : (s.powerDown).expevt = s.expevt := rfl
@[simp] theorem State.powerDown_tra (s : State) : (s.powerDown).tra = s.tra := rfl
@[simp] theorem State.powerDown_intevt (s : State) : (s.powerDown).intevt = s.intevt := rfl
@[simp] theorem State.powerDown_pteh (s : State) : (s.powerDown).pteh = s.pteh := rfl
@[simp] theorem State.powerDown_ptel (s : State) : (s.powerDown).ptel = s.ptel := rfl
@[simp] theorem State.powerDown_mmucr (s : State) : (s.powerDown).mmucr = s.mmucr := rfl
@[simp] theorem State.powerDown_stbcr (s : State) : (s.powerDown).stbcr = s.stbcr := rfl
@[simp] theorem State.powerDown_tlb (s : State) : (s.powerDown).tlb = s.tlb := rfl
@[simp] theorem State.powerDown_mem (s : State) : (s.powerDown).mem = s.mem := rfl
@[simp] theorem State.powerDown_littleEndian (s : State) : (s.powerDown).littleEndian = s.littleEndian := rfl
@[simp] theorem State.powerDown_md5 (s : State) : (s.powerDown).md5 = s.md5 := rfl
@[simp] theorem State.powerDown_pending (s : State) : (s.powerDown).pending = s.pending := rfl
@[simp] theorem State.powerDown_mode (s : State) :
    (s.powerDown).mode = if s.stby then .standby else .sleeping := rfl
@[simp] theorem State.powerDown_memMap (s : State) : (s.powerDown).memMap = s.memMap := rfl
@[simp] theorem State.powerDown_platform (s : State) : (s.powerDown).platform = s.platform := rfl
@[simp] theorem State.powerDown_deviceIn (s : State) : (s.powerDown).deviceIn = s.deviceIn := rfl
@[simp] theorem State.powerDown_deviceOut (s : State) : (s.powerDown).deviceOut = s.deviceOut := rfl
@[simp] theorem State.powerDown_inputs (s : State) : (s.powerDown).inputs = s.inputs := rfl
@[simp] theorem State.powerDown_freeCount (s : State) : (s.powerDown).freeCount = s.freeCount := rfl
@[simp] theorem State.powerDown_readByte (s : State) (at_ : Word) :
    (s.powerDown).readByte at_ = s.readByte at_ := rfl
@[simp] theorem State.powerDown_isDevice (s : State) (at_ : Word) :
    (s.powerDown).isDevice at_ = s.isDevice at_ := rfl
@[simp] theorem State.powerDown_mapped (s : State) : (s.powerDown).mapped = s.mapped := rfl
@[simp] theorem State.powerDown_system (s : State) : (s.powerDown).system = s.system := rfl

/-! ### `State.enter` -/

@[simp] theorem State.enter_gpr (s : State) (resume offset : Word) : (s.enter resume offset).gpr = s.gpr := rfl
@[simp] theorem State.enter_sr (s : State) (resume offset : Word) :
    (s.enter resume offset).sr = s.sr ||| Sr.entryBits := rfl
@[simp] theorem State.enter_gbr (s : State) (resume offset : Word) : (s.enter resume offset).gbr = s.gbr := rfl
@[simp] theorem State.enter_vbr (s : State) (resume offset : Word) : (s.enter resume offset).vbr = s.vbr := rfl
@[simp] theorem State.enter_ssr (s : State) (resume offset : Word) : (s.enter resume offset).ssr = s.sr := rfl
@[simp] theorem State.enter_spc (s : State) (resume offset : Word) : (s.enter resume offset).spc = resume := rfl
@[simp] theorem State.enter_mach (s : State) (resume offset : Word) : (s.enter resume offset).mach = s.mach := rfl
@[simp] theorem State.enter_macl (s : State) (resume offset : Word) : (s.enter resume offset).macl = s.macl := rfl
@[simp] theorem State.enter_pr (s : State) (resume offset : Word) : (s.enter resume offset).pr = s.pr := rfl
@[simp] theorem State.enter_pc (s : State) (resume offset : Word) :
    (s.enter resume offset).pc = s.vbr + offset := rfl
@[simp] theorem State.enter_expevt (s : State) (resume offset : Word) :
    (s.enter resume offset).expevt = s.expevt := rfl
@[simp] theorem State.enter_tra (s : State) (resume offset : Word) : (s.enter resume offset).tra = s.tra := rfl
@[simp] theorem State.enter_intevt (s : State) (resume offset : Word) :
    (s.enter resume offset).intevt = s.intevt := rfl
@[simp] theorem State.enter_pteh (s : State) (resume offset : Word) : (s.enter resume offset).pteh = s.pteh := rfl
@[simp] theorem State.enter_ptel (s : State) (resume offset : Word) : (s.enter resume offset).ptel = s.ptel := rfl
@[simp] theorem State.enter_mmucr (s : State) (resume offset : Word) :
    (s.enter resume offset).mmucr = s.mmucr := rfl
@[simp] theorem State.enter_stbcr (s : State) (resume offset : Word) :
    (s.enter resume offset).stbcr = s.stbcr := rfl
@[simp] theorem State.enter_tlb (s : State) (resume offset : Word) : (s.enter resume offset).tlb = s.tlb := rfl
@[simp] theorem State.enter_mem (s : State) (resume offset : Word) : (s.enter resume offset).mem = s.mem := rfl
@[simp] theorem State.enter_littleEndian (s : State) (resume offset : Word) :
    (s.enter resume offset).littleEndian = s.littleEndian := rfl
@[simp] theorem State.enter_md5 (s : State) (resume offset : Word) : (s.enter resume offset).md5 = s.md5 := rfl
@[simp] theorem State.enter_pending (s : State) (resume offset : Word) :
    (s.enter resume offset).pending = none := rfl
@[simp] theorem State.enter_mode (s : State) (resume offset : Word) :
    (s.enter resume offset).mode = .running := rfl
@[simp] theorem State.enter_memMap (s : State) (resume offset : Word) :
    (s.enter resume offset).memMap = s.memMap := rfl
@[simp] theorem State.enter_platform (s : State) (resume offset : Word) :
    (s.enter resume offset).platform = s.platform := rfl
@[simp] theorem State.enter_deviceIn (s : State) (resume offset : Word) :
    (s.enter resume offset).deviceIn = s.deviceIn := rfl
@[simp] theorem State.enter_deviceOut (s : State) (resume offset : Word) :
    (s.enter resume offset).deviceOut = s.deviceOut := rfl
@[simp] theorem State.enter_inputs (s : State) (resume offset : Word) :
    (s.enter resume offset).inputs = s.inputs := rfl
@[simp] theorem State.enter_freeCount (s : State) (resume offset : Word) :
    (s.enter resume offset).freeCount = s.freeCount := rfl

/-! ### `State.resetWith` -/

@[simp] theorem State.resetWith_gpr (s : State) (k : ResetKind) : (s.resetWith k).gpr = s.gpr := rfl
@[simp] theorem State.resetWith_sr (s : State) (k : ResetKind) :
    (s.resetWith k).sr = Sr.resetBits s.platform ||| (s.sr &&& Sr.userBits) := rfl
@[simp] theorem State.resetWith_gbr (s : State) (k : ResetKind) : (s.resetWith k).gbr = s.gbr := rfl
@[simp] theorem State.resetWith_vbr (s : State) (k : ResetKind) : (s.resetWith k).vbr = 0#32 := rfl
@[simp] theorem State.resetWith_ssr (s : State) (k : ResetKind) : (s.resetWith k).ssr = s.ssr := rfl
@[simp] theorem State.resetWith_spc (s : State) (k : ResetKind) : (s.resetWith k).spc = s.spc := rfl
@[simp] theorem State.resetWith_mach (s : State) (k : ResetKind) : (s.resetWith k).mach = s.mach := rfl
@[simp] theorem State.resetWith_macl (s : State) (k : ResetKind) : (s.resetWith k).macl = s.macl := rfl
@[simp] theorem State.resetWith_pr (s : State) (k : ResetKind) : (s.resetWith k).pr = s.pr := rfl
@[simp] theorem State.resetWith_pc (s : State) (k : ResetKind) : (s.resetWith k).pc = 0xA0000000#32 := rfl
@[simp] theorem State.resetWith_expevt (s : State) (k : ResetKind) :
    (s.resetWith k).expevt = k.code s.platform := rfl
@[simp] theorem State.resetWith_tra (s : State) (k : ResetKind) : (s.resetWith k).tra = s.tra := rfl
@[simp] theorem State.resetWith_intevt (s : State) (k : ResetKind) : (s.resetWith k).intevt = s.intevt := rfl
@[simp] theorem State.resetWith_pteh (s : State) (k : ResetKind) : (s.resetWith k).pteh = s.pteh := rfl
@[simp] theorem State.resetWith_ptel (s : State) (k : ResetKind) : (s.resetWith k).ptel = s.ptel := rfl
@[simp] theorem State.resetWith_mmucr (s : State) (k : ResetKind) :
    (s.resetWith k).mmucr = s.mmucr &&& ~~~(1#32 <<< s.platform.atBit.val) := rfl
@[simp] theorem State.resetWith_stbcr (s : State) (k : ResetKind) :
    (s.resetWith k).stbcr = s.stbcr &&& ~~~(1#8 <<< s.platform.stbyBit.val) := rfl
@[simp] theorem State.resetWith_tlb (s : State) (k : ResetKind) : (s.resetWith k).tlb = s.tlb := rfl
@[simp] theorem State.resetWith_mem (s : State) (k : ResetKind) : (s.resetWith k).mem = s.mem := rfl
@[simp] theorem State.resetWith_littleEndian (s : State) (k : ResetKind) :
    (s.resetWith k).littleEndian = s.md5 := rfl
@[simp] theorem State.resetWith_md5 (s : State) (k : ResetKind) : (s.resetWith k).md5 = s.md5 := rfl
@[simp] theorem State.resetWith_pending (s : State) (k : ResetKind) : (s.resetWith k).pending = none := rfl
@[simp] theorem State.resetWith_mode (s : State) (k : ResetKind) : (s.resetWith k).mode = .running := rfl
@[simp] theorem State.resetWith_memMap (s : State) (k : ResetKind) : (s.resetWith k).memMap = s.memMap := rfl
@[simp] theorem State.resetWith_platform (s : State) (k : ResetKind) : (s.resetWith k).platform = s.platform := rfl
@[simp] theorem State.resetWith_deviceIn (s : State) (k : ResetKind) : (s.resetWith k).deviceIn = s.deviceIn := rfl
@[simp] theorem State.resetWith_deviceOut (s : State) (k : ResetKind) :
    (s.resetWith k).deviceOut = s.deviceOut := rfl
@[simp] theorem State.resetWith_inputs (s : State) (k : ResetKind) : (s.resetWith k).inputs = s.inputs := rfl
@[simp] theorem State.resetWith_freeCount (s : State) (k : ResetKind) :
    (s.resetWith k).freeCount = s.freeCount := rfl

/-! ### `State.afterInput` -/

@[simp] theorem State.afterInput_gpr (s : State) : (s.afterInput).gpr = s.gpr := rfl
@[simp] theorem State.afterInput_sr (s : State) : (s.afterInput).sr = s.sr := rfl
@[simp] theorem State.afterInput_gbr (s : State) : (s.afterInput).gbr = s.gbr := rfl
@[simp] theorem State.afterInput_vbr (s : State) : (s.afterInput).vbr = s.vbr := rfl
@[simp] theorem State.afterInput_ssr (s : State) : (s.afterInput).ssr = s.ssr := rfl
@[simp] theorem State.afterInput_spc (s : State) : (s.afterInput).spc = s.spc := rfl
@[simp] theorem State.afterInput_mach (s : State) : (s.afterInput).mach = s.mach := rfl
@[simp] theorem State.afterInput_macl (s : State) : (s.afterInput).macl = s.macl := rfl
@[simp] theorem State.afterInput_pr (s : State) : (s.afterInput).pr = s.pr := rfl
@[simp] theorem State.afterInput_pc (s : State) : (s.afterInput).pc = s.pc := rfl
@[simp] theorem State.afterInput_expevt (s : State) : (s.afterInput).expevt = s.expevt := rfl
@[simp] theorem State.afterInput_tra (s : State) : (s.afterInput).tra = s.tra := rfl
@[simp] theorem State.afterInput_intevt (s : State) : (s.afterInput).intevt = s.intevt := rfl
@[simp] theorem State.afterInput_pteh (s : State) : (s.afterInput).pteh = s.pteh := rfl
@[simp] theorem State.afterInput_ptel (s : State) : (s.afterInput).ptel = s.ptel := rfl
@[simp] theorem State.afterInput_mmucr (s : State) : (s.afterInput).mmucr = s.mmucr := rfl
@[simp] theorem State.afterInput_stbcr (s : State) : (s.afterInput).stbcr = s.stbcr := rfl
@[simp] theorem State.afterInput_tlb (s : State) : (s.afterInput).tlb = s.tlb := rfl
@[simp] theorem State.afterInput_mem (s : State) : (s.afterInput).mem = s.mem := rfl
@[simp] theorem State.afterInput_littleEndian (s : State) : (s.afterInput).littleEndian = s.littleEndian := rfl
@[simp] theorem State.afterInput_md5 (s : State) : (s.afterInput).md5 = s.input.md5.getD s.md5 := rfl
@[simp] theorem State.afterInput_pending (s : State) : (s.afterInput).pending = s.pending := rfl
@[simp] theorem State.afterInput_mode (s : State) : (s.afterInput).mode = s.mode := rfl
@[simp] theorem State.afterInput_memMap (s : State) : (s.afterInput).memMap = s.memMap := rfl
@[simp] theorem State.afterInput_platform (s : State) : (s.afterInput).platform = s.platform := rfl
@[simp] theorem State.afterInput_deviceIn (s : State) :
    (s.afterInput).deviceIn = s.deviceIn ++ s.input.answers := rfl
@[simp] theorem State.afterInput_deviceOut (s : State) : (s.afterInput).deviceOut = s.deviceOut := rfl
@[simp] theorem State.afterInput_inputs (s : State) : (s.afterInput).inputs = s.inputs.tail := rfl
@[simp] theorem State.afterInput_freeCount (s : State) : (s.afterInput).freeCount = s.freeCount := rfl

/-! ### `CtrlReg.set` -/

@[simp] theorem CtrlReg.set_gpr (r : CtrlReg) (v : Word) (s : State) :
    (r.set v s).gpr = s.gpr := by cases r <;> rfl
@[simp] theorem CtrlReg.set_sr (r : CtrlReg) (v : Word) (s : State) : (r.set v s).sr = s.sr := by cases r <;> rfl
@[simp] theorem CtrlReg.set_gbr (r : CtrlReg) (v : Word) (s : State) :
    (r.set v s).gbr = s.gbr := by cases r <;> rfl
@[simp] theorem CtrlReg.set_vbr (r : CtrlReg) (v : Word) (s : State) :
    (r.set v s).vbr = s.vbr := by cases r <;> rfl
@[simp] theorem CtrlReg.set_ssr (r : CtrlReg) (v : Word) (s : State) :
    (r.set v s).ssr = s.ssr := by cases r <;> rfl
@[simp] theorem CtrlReg.set_spc (r : CtrlReg) (v : Word) (s : State) :
    (r.set v s).spc = s.spc := by cases r <;> rfl
@[simp] theorem CtrlReg.set_mach (r : CtrlReg) (v : Word) (s : State) :
    (r.set v s).mach = s.mach := by cases r <;> rfl
@[simp] theorem CtrlReg.set_macl (r : CtrlReg) (v : Word) (s : State) :
    (r.set v s).macl = s.macl := by cases r <;> rfl
@[simp] theorem CtrlReg.set_pr (r : CtrlReg) (v : Word) (s : State) : (r.set v s).pr = s.pr := by cases r <;> rfl
@[simp] theorem CtrlReg.set_pc (r : CtrlReg) (v : Word) (s : State) : (r.set v s).pc = s.pc := by cases r <;> rfl
@[simp] theorem CtrlReg.set_tlb (r : CtrlReg) (v : Word) (s : State) :
    (r.set v s).tlb = s.tlb := by cases r <;> rfl
@[simp] theorem CtrlReg.set_mem (r : CtrlReg) (v : Word) (s : State) :
    (r.set v s).mem = s.mem := by cases r <;> rfl
@[simp] theorem CtrlReg.set_littleEndian (r : CtrlReg) (v : Word) (s : State) :
    (r.set v s).littleEndian = s.littleEndian := by cases r <;> rfl
@[simp] theorem CtrlReg.set_md5 (r : CtrlReg) (v : Word) (s : State) :
    (r.set v s).md5 = s.md5 := by cases r <;> rfl
@[simp] theorem CtrlReg.set_pending (r : CtrlReg) (v : Word) (s : State) :
    (r.set v s).pending = s.pending := by cases r <;> rfl
@[simp] theorem CtrlReg.set_mode (r : CtrlReg) (v : Word) (s : State) :
    (r.set v s).mode = s.mode := by cases r <;> rfl
@[simp] theorem CtrlReg.set_memMap (r : CtrlReg) (v : Word) (s : State) :
    (r.set v s).memMap = s.memMap := by cases r <;> rfl
@[simp] theorem CtrlReg.set_platform (r : CtrlReg) (v : Word) (s : State) :
    (r.set v s).platform = s.platform := by cases r <;> rfl
@[simp] theorem CtrlReg.set_deviceIn (r : CtrlReg) (v : Word) (s : State) :
    (r.set v s).deviceIn = s.deviceIn := by cases r <;> rfl
@[simp] theorem CtrlReg.set_deviceOut (r : CtrlReg) (v : Word) (s : State) :
    (r.set v s).deviceOut = s.deviceOut := by cases r <;> rfl
@[simp] theorem CtrlReg.set_inputs (r : CtrlReg) (v : Word) (s : State) :
    (r.set v s).inputs = s.inputs := by cases r <;> rfl
@[simp] theorem CtrlReg.set_freeCount (r : CtrlReg) (v : Word) (s : State) :
    (r.set v s).freeCount = s.freeCount := by cases r <;> rfl
@[simp] theorem CtrlReg.set_system (r : CtrlReg) (v : Word) (s : State) :
    (r.set v s).system = s.system := by cases r <;> rfl
@[simp] theorem CtrlReg.set_surroundings (r : CtrlReg) (v : Word) (s : State) :
    (r.set v s).surroundings = s.surroundings := by cases r <;> rfl

/-! ### `State.interrupt` -/

@[simp] theorem State.interrupt_gpr (s : State) (r : IntReq) :
    (s.interrupt r).gpr = s.gpr := by simp [State.interrupt]
@[simp] theorem State.interrupt_sr (s : State) (r : IntReq) :
    (s.interrupt r).sr = s.sr ||| Sr.entryBits := by simp [State.interrupt]
@[simp] theorem State.interrupt_gbr (s : State) (r : IntReq) :
    (s.interrupt r).gbr = s.gbr := by simp [State.interrupt]
@[simp] theorem State.interrupt_vbr (s : State) (r : IntReq) :
    (s.interrupt r).vbr = s.vbr := by simp [State.interrupt]
@[simp] theorem State.interrupt_ssr (s : State) (r : IntReq) :
    (s.interrupt r).ssr = s.sr := by simp [State.interrupt]
@[simp] theorem State.interrupt_spc (s : State) (r : IntReq) :
    (s.interrupt r).spc = s.pc := by simp [State.interrupt]
@[simp] theorem State.interrupt_mach (s : State) (r : IntReq) :
    (s.interrupt r).mach = s.mach := by simp [State.interrupt]
@[simp] theorem State.interrupt_macl (s : State) (r : IntReq) :
    (s.interrupt r).macl = s.macl := by simp [State.interrupt]
@[simp] theorem State.interrupt_pr (s : State) (r : IntReq) :
    (s.interrupt r).pr = s.pr := by simp [State.interrupt]
@[simp] theorem State.interrupt_pc (s : State) (r : IntReq) :
    (s.interrupt r).pc = s.vbr + s.platform.interruptOffset := by simp [State.interrupt]
@[simp] theorem State.interrupt_tlb (s : State) (r : IntReq) :
    (s.interrupt r).tlb = s.tlb := by simp [State.interrupt]
@[simp] theorem State.interrupt_mem (s : State) (r : IntReq) :
    (s.interrupt r).mem = s.mem := by simp [State.interrupt]
@[simp] theorem State.interrupt_littleEndian (s : State) (r : IntReq) :
    (s.interrupt r).littleEndian = s.littleEndian := by simp [State.interrupt]
@[simp] theorem State.interrupt_md5 (s : State) (r : IntReq) :
    (s.interrupt r).md5 = s.md5 := by simp [State.interrupt]
@[simp] theorem State.interrupt_pending (s : State) (r : IntReq) :
    (s.interrupt r).pending = none := by simp [State.interrupt]
@[simp] theorem State.interrupt_mode (s : State) (r : IntReq) :
    (s.interrupt r).mode = .running := by simp [State.interrupt]
@[simp] theorem State.interrupt_memMap (s : State) (r : IntReq) :
    (s.interrupt r).memMap = s.memMap := by simp [State.interrupt]
@[simp] theorem State.interrupt_platform (s : State) (r : IntReq) :
    (s.interrupt r).platform = s.platform := by simp [State.interrupt]
@[simp] theorem State.interrupt_deviceIn (s : State) (r : IntReq) :
    (s.interrupt r).deviceIn = s.deviceIn := by simp [State.interrupt]
@[simp] theorem State.interrupt_deviceOut (s : State) (r : IntReq) :
    (s.interrupt r).deviceOut = s.deviceOut := by simp [State.interrupt]
@[simp] theorem State.interrupt_inputs (s : State) (r : IntReq) :
    (s.interrupt r).inputs = s.inputs := by simp [State.interrupt]
@[simp] theorem State.interrupt_freeCount (s : State) (r : IntReq) :
    (s.interrupt r).freeCount = s.freeCount := by simp [State.interrupt]
@[simp] theorem State.interrupt_mapped (s : State) (r : IntReq) :
    (s.interrupt r).mapped = (s.platform.interruptRegister.set r.code s).mapped := by
  unfold State.interrupt; cases s.platform.interruptRegister <;> rfl

/-! ### `State.afterRead` -/

@[simp] theorem State.afterRead_gpr (s : State) (a : Word) (z : Size) : (s.afterRead a z).gpr = s.gpr := by
  unfold State.afterRead; split <;> rfl
@[simp] theorem State.afterRead_sr (s : State) (a : Word) (z : Size) : (s.afterRead a z).sr = s.sr := by
  unfold State.afterRead; split <;> rfl
@[simp] theorem State.afterRead_gbr (s : State) (a : Word) (z : Size) : (s.afterRead a z).gbr = s.gbr := by
  unfold State.afterRead; split <;> rfl
@[simp] theorem State.afterRead_vbr (s : State) (a : Word) (z : Size) : (s.afterRead a z).vbr = s.vbr := by
  unfold State.afterRead; split <;> rfl
@[simp] theorem State.afterRead_ssr (s : State) (a : Word) (z : Size) : (s.afterRead a z).ssr = s.ssr := by
  unfold State.afterRead; split <;> rfl
@[simp] theorem State.afterRead_spc (s : State) (a : Word) (z : Size) : (s.afterRead a z).spc = s.spc := by
  unfold State.afterRead; split <;> rfl
@[simp] theorem State.afterRead_mach (s : State) (a : Word) (z : Size) : (s.afterRead a z).mach = s.mach := by
  unfold State.afterRead; split <;> rfl
@[simp] theorem State.afterRead_macl (s : State) (a : Word) (z : Size) : (s.afterRead a z).macl = s.macl := by
  unfold State.afterRead; split <;> rfl
@[simp] theorem State.afterRead_pr (s : State) (a : Word) (z : Size) : (s.afterRead a z).pr = s.pr := by
  unfold State.afterRead; split <;> rfl
@[simp] theorem State.afterRead_pc (s : State) (a : Word) (z : Size) : (s.afterRead a z).pc = s.pc := by
  unfold State.afterRead; split <;> rfl
@[simp] theorem State.afterRead_expevt (s : State) (a : Word) (z : Size) :
    (s.afterRead a z).expevt = s.expevt := by
  unfold State.afterRead; split <;> rfl
@[simp] theorem State.afterRead_tra (s : State) (a : Word) (z : Size) : (s.afterRead a z).tra = s.tra := by
  unfold State.afterRead; split <;> rfl
@[simp] theorem State.afterRead_intevt (s : State) (a : Word) (z : Size) :
    (s.afterRead a z).intevt = s.intevt := by
  unfold State.afterRead; split <;> rfl
@[simp] theorem State.afterRead_pteh (s : State) (a : Word) (z : Size) : (s.afterRead a z).pteh = s.pteh := by
  unfold State.afterRead; split <;> rfl
@[simp] theorem State.afterRead_ptel (s : State) (a : Word) (z : Size) : (s.afterRead a z).ptel = s.ptel := by
  unfold State.afterRead; split <;> rfl
@[simp] theorem State.afterRead_mmucr (s : State) (a : Word) (z : Size) : (s.afterRead a z).mmucr = s.mmucr := by
  unfold State.afterRead; split <;> rfl
@[simp] theorem State.afterRead_stbcr (s : State) (a : Word) (z : Size) : (s.afterRead a z).stbcr = s.stbcr := by
  unfold State.afterRead; split <;> rfl
@[simp] theorem State.afterRead_tlb (s : State) (a : Word) (z : Size) : (s.afterRead a z).tlb = s.tlb := by
  unfold State.afterRead; split <;> rfl
@[simp] theorem State.afterRead_mem (s : State) (a : Word) (z : Size) : (s.afterRead a z).mem = s.mem := by
  unfold State.afterRead; split <;> rfl
@[simp] theorem State.afterRead_littleEndian (s : State) (a : Word) (z : Size) :
    (s.afterRead a z).littleEndian = s.littleEndian := by
  unfold State.afterRead; split <;> rfl
@[simp] theorem State.afterRead_md5 (s : State) (a : Word) (z : Size) : (s.afterRead a z).md5 = s.md5 := by
  unfold State.afterRead; split <;> rfl
@[simp] theorem State.afterRead_pending (s : State) (a : Word) (z : Size) :
    (s.afterRead a z).pending = s.pending := by
  unfold State.afterRead; split <;> rfl
@[simp] theorem State.afterRead_mode (s : State) (a : Word) (z : Size) : (s.afterRead a z).mode = s.mode := by
  unfold State.afterRead; split <;> rfl
@[simp] theorem State.afterRead_memMap (s : State) (a : Word) (z : Size) :
    (s.afterRead a z).memMap = s.memMap := by
  unfold State.afterRead; split <;> rfl
@[simp] theorem State.afterRead_platform (s : State) (a : Word) (z : Size) :
    (s.afterRead a z).platform = s.platform := by
  unfold State.afterRead; split <;> rfl
@[simp] theorem State.afterRead_inputs (s : State) (a : Word) (z : Size) :
    (s.afterRead a z).inputs = s.inputs := by
  unfold State.afterRead; split <;> rfl
@[simp] theorem State.afterRead_reg (s : State) (a : Word) (z : Size) (n : RegNum) :
    (s.afterRead a z).reg n = s.reg n := by
  unfold State.afterRead; split <;> rfl
@[simp] theorem State.afterRead_readByte (s : State) (a : Word) (z : Size) (at_ : Word) :
    (s.afterRead a z).readByte at_ = s.readByte at_ := by
  unfold State.afterRead; split <;> rfl
@[simp] theorem State.afterRead_isDevice (s : State) (a : Word) (z : Size) (at_ : Word) :
    (s.afterRead a z).isDevice at_ = s.isDevice at_ := by
  unfold State.afterRead; split <;> rfl
@[simp] theorem State.afterRead_mapped (s : State) (a : Word) (z : Size) :
    (s.afterRead a z).mapped = s.mapped := by
  unfold State.afterRead; split <;> rfl
@[simp] theorem State.afterRead_system (s : State) (a : Word) (z : Size) :
    (s.afterRead a z).system = s.system := by
  unfold State.afterRead; split <;> rfl
@[simp] theorem State.afterRead_accessOk (s : State) (a : Word) (z : Size) (k : AccessKind) (b : Word) (y : Size) :
    (s.afterRead a z).accessOk k b y = s.accessOk k b y := by
  unfold State.afterRead; split <;> rfl

/-- A read that begins at no device changes nothing. -/
theorem State.afterRead_memory (s : State) (a : Word) (z : Size) (h : s.isDevice a = false) : s.afterRead a z = s := by
  simp [State.afterRead, h]

/-- A read that begins at no device gives the bytes. -/
theorem State.memRead_memory (s : State) (a : Word) (z : Size) (h : s.isDevice a = false) :
    s.memRead a z = s.bytesRead a z := by
  simp [State.memRead, h]

/-- A read of a device gives the host's answer. -/
theorem State.memRead_device (s : State) (a : Word) (z : Size) (h : s.isDevice a = true) :
    s.memRead a z = s.answer z := by
  simp [State.memRead, h]

/-- A read of a device for which the host has an answer uses it up and is recorded. -/
theorem State.afterRead_device (s : State) (a : Word) (z : Size) (v : Word) (rest : List Word)
    (h : s.isDevice a = true) (hv : s.deviceIn = v :: rest) :
    s.afterRead a z = { s with deviceIn := rest, deviceOut := s.deviceOut ++ [.read a z (z.low v)] } := by
  simp [State.afterRead, State.answer, h, hv]

end Sys2Proof.Machine
end

