-- ==== Sys2Proof/Laws/Memory.lean ====
section
/-! SUPPORT. The laws of the two sparse stores: a read after a write, and that every operation on them keeps the canonical
form. -/

namespace Sys2Proof.Machine

/-! ### Memory -/

/-- The canonical form of a list with a first entry, as a proposition. -/
theorem Memory.wf_cons_iff (k : Nat) (b : Byte) (rest : List Host.Cell) :
    Memory.wf ((k, b) :: rest) = true ↔
      k < 2 ^ 32 ∧ b ≠ Memory.unlisted ∧ (∀ c ∈ rest, k < c.1) ∧ Memory.wf rest = true := by
  simp [Memory.wf, and_assoc]

/-- An address below every entry reads as an unlisted one. -/
theorem Memory.read_below (l : List Host.Cell) (a : Nat) (h : ∀ c ∈ l, a < c.1) : Memory.read l a = Memory.unlisted := by
  induction l with
  | nil => rfl
  | cons x rest ih =>
    have hx := h x (by simp)
    simp only [Memory.read, ih fun c hc => h c (by simp [hc])]
    split <;> first | omega | rfl

/-- What a list reads once a cell stands in front of it. -/
theorem Memory.read_cons (a : Nat) (b : Byte) (rest : List Host.Cell) (x : Nat) (h : ∀ c ∈ rest, a < c.1) :
    Memory.read (Memory.cons a b rest) x = if x = a then b else Memory.read rest x := by
  unfold Memory.cons
  split
  · next hb =>
    split
    · next hx => rw [hx, Memory.read_below rest a h, hb]
    · rfl
  · simp [Memory.read, eq_comm]

/-- A cell in front of larger addresses keeps the canonical form. -/
theorem Memory.wf_cons (a : Nat) (b : Byte) (rest : List Host.Cell) (ha : a < 2 ^ 32) (h : ∀ c ∈ rest, a < c.1)
    (hr : Memory.wf rest = true) : Memory.wf (Memory.cons a b rest) = true := by
  unfold Memory.cons
  split
  · exact hr
  · next hb => exact (Memory.wf_cons_iff a b rest).mpr ⟨ha, hb, h, hr⟩

/-- The entries of a list with a cell put in front. -/
theorem Memory.mem_cons (a : Nat) (b : Byte) (rest : List Host.Cell) (c : Host.Cell) (h : c ∈ Memory.cons a b rest) :
    c.1 = a ∨ c ∈ rest := by
  unfold Memory.cons at h
  split at h
  · exact .inr h
  · simp only [List.mem_cons] at h
    rcases h with rfl | h
    · exact .inl rfl
    · exact .inr h

/-- The addresses of a list after a write. -/
theorem Memory.mem_write (l : List Host.Cell) (a : Nat) (b : Byte) (c : Host.Cell) (h : c ∈ Memory.write l a b) :
    c.1 = a ∨ c ∈ l := by
  induction l with
  | nil => simpa using Memory.mem_cons a b [] c h
  | cons x rest ih =>
    obtain ⟨k, v⟩ := x
    simp only [Memory.write] at h
    split at h
    · exact Memory.mem_cons a b _ c h
    · split at h
      · rcases Memory.mem_cons a b _ c h with h | h
        · exact .inl h
        · exact .inr (by simp [h])
      · simp only [List.mem_cons] at h
        rcases h with rfl | h
        · exact .inr (by simp)
        · rcases ih h with h | h
          · exact .inl h
          · exact .inr (by simp [h])

/-- Writing a byte keeps the canonical form. -/
theorem Memory.wf_write (l : List Host.Cell) (a : Nat) (b : Byte) (ha : a < 2 ^ 32) (hl : Memory.wf l = true) :
    Memory.wf (Memory.write l a b) = true := by
  induction l with
  | nil => exact Memory.wf_cons a b [] ha (by simp) rfl
  | cons x rest ih =>
    obtain ⟨k, v⟩ := x
    obtain ⟨hk, hv, hs, hr⟩ := (Memory.wf_cons_iff k v rest).mp hl
    simp only [Memory.write]
    split
    · next hlt =>
      refine Memory.wf_cons a b _ ha ?_ hl
      intro c hc
      simp only [List.mem_cons] at hc
      rcases hc with rfl | hc
      · exact hlt
      · exact hlt.trans (hs c hc)
    · split
      · next he => exact Memory.wf_cons a b rest ha (fun c hc => he ▸ hs c hc) hr
      · next h1 h2 =>
        refine (Memory.wf_cons_iff k v _).mpr ⟨hk, hv, ?_, ih hr⟩
        intro c hc
        rcases Memory.mem_write rest a b c hc with h | h
        · omega
        · exact hs c h

/-- A read after a write. -/
theorem Memory.read_write (l : List Host.Cell) (a : Nat) (b : Byte) (x : Nat) (hl : Memory.wf l = true) :
    Memory.read (Memory.write l a b) x = if x = a then b else Memory.read l x := by
  induction l with
  | nil => exact Memory.read_cons a b [] x (by simp)
  | cons y rest ih =>
    obtain ⟨k, v⟩ := y
    obtain ⟨-, -, hs, hr⟩ := (Memory.wf_cons_iff k v rest).mp hl
    simp only [Memory.write]
    split
    · next hlt =>
      refine Memory.read_cons a b _ x ?_
      intro c hc
      simp only [List.mem_cons] at hc
      rcases hc with rfl | hc
      · exact hlt
      · exact hlt.trans (hs c hc)
    · split
      · next he =>
        rw [Memory.read_cons a b rest x fun c hc => he ▸ hs c hc]
        by_cases hx : x = a
        · simp [hx]
        · have : ¬k = x := fun h => hx (by omega)
          simp [Memory.read, hx, this]
      · next h1 h2 =>
        simp only [Memory.read, ih hr]
        by_cases hx : k = x
        · have : ¬x = a := fun h => h2 (by omega)
          simp [hx, this]
        · simp [hx]

/-- A write leaves every other address alone, whatever the list. -/
theorem Memory.read_write_other (l : List Host.Cell) (a : Nat) (b : Byte) (x : Nat) (hx : x ≠ a) :
    Memory.read (Memory.write l a b) x = Memory.read l x := by
  have front : ∀ rest : List Host.Cell, Memory.read (Memory.cons a b rest) x = Memory.read rest x := by
    intro rest
    unfold Memory.cons
    split
    · rfl
    · simp [Memory.read, hx.symm]
  induction l with
  | nil => exact front []
  | cons y rest ih =>
    obtain ⟨k, v⟩ := y
    simp only [Memory.write]
    split
    · exact front _
    · split
      · next he => rw [front]; simp [Memory.read, show ¬k = x from fun h => hx (by omega)]
      · simp only [Memory.read, ih]

/-! ### The TLB -/

/-- The order of entries, as a proposition. -/
theorem Tlb.before_iff (e x : TlbEntry) :
    Tlb.before e x = true ↔ e.index < x.index ∨ (e.index = x.index ∧ e.way < x.way) := by
  simp [Tlb.before]

/-- The order of entries is transitive. -/
theorem Tlb.before_trans (e x y : TlbEntry) (h : Tlb.before e x = true) (h' : Tlb.before x y = true) :
    Tlb.before e y = true := by
  rw [Tlb.before_iff] at *
  omega

/-- Two entries of which neither comes first have one index and way. -/
theorem Tlb.same_place (e x : TlbEntry) (h : Tlb.before e x = false) (h' : Tlb.before x e = false) :
    e.index = x.index ∧ e.way = x.way := by
  rw [← Bool.not_eq_true, Tlb.before_iff] at *
  omega

/-- The canonical form of a TLB with a first entry, as a proposition. -/
theorem Tlb.wf_cons_iff (e : TlbEntry) (rest : List TlbEntry) :
    Tlb.wf (e :: rest) = true ↔ (∀ x ∈ rest, Tlb.before e x = true) ∧ Tlb.wf rest = true := by
  simp [Tlb.wf]

/-- The entries after a write. -/
theorem Tlb.mem_write (l : List TlbEntry) (e c : TlbEntry) (h : c ∈ Tlb.write l e) : c = e ∨ c ∈ l := by
  induction l with
  | nil => simpa [Tlb.write] using h
  | cons x rest ih =>
    simp only [Tlb.write] at h
    split at h
    · simpa using h
    · split at h <;> simp only [List.mem_cons] at h ⊢ <;> tauto

/-- Writing an entry keeps the canonical form. -/
theorem Tlb.wf_write (l : List TlbEntry) (e : TlbEntry) (hl : Tlb.wf l = true) : Tlb.wf (Tlb.write l e) = true := by
  induction l with
  | nil => simp [Tlb.write, Tlb.wf]
  | cons x rest ih =>
    obtain ⟨hs, hr⟩ := (Tlb.wf_cons_iff x rest).mp hl
    simp only [Tlb.write]
    split
    · next hlt =>
      refine (Tlb.wf_cons_iff e _).mpr ⟨?_, hl⟩
      intro c hc
      simp only [List.mem_cons] at hc
      rcases hc with rfl | hc
      · exact hlt
      · exact Tlb.before_trans e x c hlt (hs c hc)
    · next h1 =>
      split
      · next h2 =>
        refine (Tlb.wf_cons_iff x _).mpr ⟨?_, ih hr⟩
        intro c hc
        rcases Tlb.mem_write rest e c hc with rfl | h
        · exact h2
        · exact hs c h
      · next h2 =>
        have hp := Tlb.same_place e x (by simpa using h1) (by simpa using h2)
        refine (Tlb.wf_cons_iff e rest).mpr ⟨fun c hc => ?_, hr⟩
        have hc' := hs c hc
        rw [Tlb.before_iff] at hc' ⊢
        omega

/-! ### What the machine writes -/

/-- A byte written to memory or to a control register keeps memory canonical. -/
theorem State.wf_writeByte (s : State) (a : Word) (b : Byte) (h : Memory.wf s.mem = true) :
    Memory.wf (s.writeByte a b).mem = true := by
  unfold State.writeByte
  split
  · next r k _ => cases r <;> exact h
  · exact Memory.wf_write s.mem a.toNat b a.isLt h

/-- Bytes written one after the other keep memory canonical. -/
theorem State.wf_writeBytes (bs : List Byte) (s : State) (a : Word) (h : Memory.wf s.mem = true) :
    Memory.wf (s.writeBytes a bs).mem = true := by
  induction bs generalizing s a with
  | nil => exact h
  | cons b rest ih => exact ih _ _ (State.wf_writeByte s a b h)

/-- A store keeps memory canonical. -/
theorem State.wf_memWrite (s : State) (a : Word) (z : Size) (v : Word) (h : Memory.wf s.mem = true) :
    Memory.wf (s.memWrite a z v).mem = true := by
  unfold State.memWrite
  split
  · exact h
  · exact State.wf_writeBytes _ s a h

/-- Placing an instruction keeps memory canonical. -/
theorem State.wf_storeCode (s : State) (w : Half) (h : Memory.wf s.mem = true) :
    Memory.wf (s.storeCode w).mem = true :=
  Memory.wf_write _ _ _ (s.pc + 1#32).isLt (Memory.wf_write _ _ _ s.pc.isLt h)

/-- The memory and the TLB after reset are canonical. -/
theorem State.reset_stores_wf : Memory.wf State.reset.mem = true ∧ Tlb.wf State.reset.tlb = true := ⟨rfl, rfl⟩

end Sys2Proof.Machine
end

