-- ==== Sys2Proof/Laws/Ops.lean ====
section
/-! SUPPORT. One law per shared operation: everything it can do, said once. The proofs about instructions cite these and do
not unfold the operations. -/

namespace Sys2Proof.Machine

/-! ### General registers -/

/-- Writing a physical register changes that register alone. -/
@[simp] theorem Gpr.read_write (g : Gpr) (p : PhysReg) (v : Word) :
    (g.write p v).read = Function.update g.read p v := by
  funext r
  cases p <;> cases r <;>
    simp [Gpr.read, Gpr.write, Function.update_apply, Vector.getElem_set, Fin.ext_iff, eq_comm]

/-- `R[n] <- v` changes `R[n]` alone. -/
theorem State.setReg_read (s : State) (n : RegNum) (v : Word) : (s.setReg n v).gpr.read = s.regsWith n v :=
  Gpr.read_write s.gpr (physReg s.sr n) v

/-- `R_OTHER[j] <- v` changes that register alone. -/
theorem State.setOther_read (s : State) (j : Fin 8) (v : Word) :
    (s.setOther j v).gpr.read = Function.update s.gpr.read (otherReg s.sr j) v :=
  Gpr.read_write s.gpr (otherReg s.sr j) v

/-- Different numbers select different registers. -/
theorem physReg_injective (sr : Word) (m n : RegNum) : physReg sr m = physReg sr n ↔ m = n := by
  have hm := m.isLt
  have hn := n.isLt
  refine ⟨fun h => BitVec.eq_of_toNat_eq ?_, fun h => h ▸ rfl⟩
  unfold physReg regIndex at h
  split at h <;> split at h <;> (try split at h) <;> simp [Fin.ext_iff, Fin.ofNat] at h <;> omega

/-- `R[n]` after `R[n] <- v`. -/
@[simp] theorem State.reg_setReg_same (s : State) (n : RegNum) (v : Word) : (s.setReg n v).reg n = v := by
  simp [State.reg]

/-- `R[m]` after `R[n] <- v` for another n. -/
theorem State.reg_setReg_other (s : State) (m n : RegNum) (v : Word) (h : m ≠ n) : (s.setReg n v).reg m = s.reg m := by
  simp [State.reg, physReg_injective, h]

/-- In privileged mode the other bank is no register that a number selects. -/
theorem otherReg_ne_physReg (sr : Word) (j : Fin 8) (n : RegNum) (h : Sr.md sr = true) :
    otherReg sr j ≠ physReg sr n := by
  unfold otherReg physReg
  cases hb : Sr.rb sr <;> simp [h] <;> split <;> simp

/-! ### The flags -/

/-- Setting one bit changes that bit alone. -/
theorem setBit_getLsbD (w : Word) (i j : Nat) (b : Bool) (hj : j < 32) :
    (setBit w i b).getLsbD j = if j = i then b else w.getLsbD j := by
  unfold setBit
  by_cases hji : j = i
  · subst hji
    cases b <;> simp [hj]
  · have hne : ¬(i ≤ j ∧ j - i = 0) := by omega
    cases b <;> simp [hj, hji] <;> omega

/-- A new T is bit 0 replaced. -/
theorem Sr.setT_eq (sr : Word) (b : Bool) : Sr.setT sr b = srWithT sr b := by
  refine BitVec.eq_of_getLsbD_eq fun i hi => ?_
  rw [Sr.setT, setBit_getLsbD sr 0 i b hi]
  interval_cases i <;> cases b <;> simp [srWithT, ofFlag]

/-- A new S is bit 1 replaced. -/
theorem Sr.setS_eq (sr : Word) (b : Bool) : Sr.setS sr b = srWithS sr b := by
  refine BitVec.eq_of_getLsbD_eq fun i hi => ?_
  rw [Sr.setS, setBit_getLsbD sr 1 i b hi]
  interval_cases i <;> cases b <;> simp [srWithS, ofFlag]

/-! ### Reset and exceptions -/

/-- A general exception with BL = 1 is the manual reset. -/
theorem State.raise_blocked (s : State) (e : Exc) (h : s.bl = true) : s.raise e = s.manualReset := by
  simp [State.raise, h]

/-- A general exception with BL = 0 is the entry. -/
theorem State.raise_open (s : State) (e : Exc) (h : s.bl = false) :
    s.raise e =
      { s.enter (s.resumeAddress e) (e.offset s.platform) with
        expevt := e.code s.platform, tra := s.traAfter e } := by
  simp [State.raise, h]

@[simp] theorem State.raise_gpr (s : State) (e : Exc) : (s.raise e).gpr = s.gpr := by
  unfold State.raise; split <;> rfl
@[simp] theorem State.raise_gbr (s : State) (e : Exc) : (s.raise e).gbr = s.gbr := by
  unfold State.raise; split <;> rfl
@[simp] theorem State.raise_mach (s : State) (e : Exc) : (s.raise e).mach = s.mach := by
  unfold State.raise; split <;> rfl
@[simp] theorem State.raise_macl (s : State) (e : Exc) : (s.raise e).macl = s.macl := by
  unfold State.raise; split <;> rfl
@[simp] theorem State.raise_pr (s : State) (e : Exc) : (s.raise e).pr = s.pr := by
  unfold State.raise; split <;> rfl
@[simp] theorem State.raise_intevt (s : State) (e : Exc) : (s.raise e).intevt = s.intevt := by
  unfold State.raise; split <;> rfl
@[simp] theorem State.raise_pteh (s : State) (e : Exc) : (s.raise e).pteh = s.pteh := by
  unfold State.raise; split <;> rfl
@[simp] theorem State.raise_ptel (s : State) (e : Exc) : (s.raise e).ptel = s.ptel := by
  unfold State.raise; split <;> rfl
@[simp] theorem State.raise_tlb (s : State) (e : Exc) : (s.raise e).tlb = s.tlb := by
  unfold State.raise; split <;> rfl
@[simp] theorem State.raise_mem (s : State) (e : Exc) : (s.raise e).mem = s.mem := by
  unfold State.raise; split <;> rfl
@[simp] theorem State.raise_md5 (s : State) (e : Exc) : (s.raise e).md5 = s.md5 := by
  unfold State.raise; split <;> rfl
@[simp] theorem State.raise_memMap (s : State) (e : Exc) : (s.raise e).memMap = s.memMap := by
  unfold State.raise; split <;> rfl
@[simp] theorem State.raise_platform (s : State) (e : Exc) : (s.raise e).platform = s.platform := by
  unfold State.raise; split <;> rfl
@[simp] theorem State.raise_deviceIn (s : State) (e : Exc) : (s.raise e).deviceIn = s.deviceIn := by
  unfold State.raise; split <;> rfl
@[simp] theorem State.raise_deviceOut (s : State) (e : Exc) : (s.raise e).deviceOut = s.deviceOut := by
  unfold State.raise; split <;> rfl
@[simp] theorem State.raise_inputs (s : State) (e : Exc) : (s.raise e).inputs = s.inputs := by
  unfold State.raise; split <;> rfl
@[simp] theorem State.raise_freeCount (s : State) (e : Exc) : (s.raise e).freeCount = s.freeCount := by
  unfold State.raise; split <;> rfl
/-- The reset of an exception with BL = 1 samples pin MD5; an entry keeps the byte order. -/
theorem State.raise_littleEndian (s : State) (e : Exc) :
    (s.raise e).littleEndian = if s.bl then s.md5 else s.littleEndian := by
  unfold State.raise; split <;> rfl

/-- A reset of either kind that the host asserts samples pin MD5, as the reset of an exception does. -/
theorem State.resetBy_littleEndian (s : State) (k : ResetKind) : (s.resetBy k).littleEndian = s.md5 := by
  cases k <;> rfl

@[simp] theorem State.raise_pending (s : State) (e : Exc) : (s.raise e).pending = none := by
  unfold State.raise; split <;> rfl
@[simp] theorem State.raise_mode (s : State) (e : Exc) : (s.raise e).mode = .running := by
  unfold State.raise; split <;> rfl

/-- What a reset assigns to SR, bit by bit. -/
theorem Sr.resetBits_getLsbD (p : Platform) (i : Nat) (hi : i < 32) :
    (Sr.resetBits p).getLsbD i =
      if i = 28 then p.resetBl else if i = 29 then p.resetRb else if i = 30 then p.resetMd
      else (0x000000F0#32).getLsbD i := by
  simp only [Sr.resetBits, setBit_getLsbD _ _ _ _ hi]

/-- Every exception enters privileged mode, and so does the reset that it causes with BL = 1 where the platform's resets
do. -/
theorem State.raise_md (s : State) (e : Exc) (h : s.bl = true → s.platform.resetMd = true) :
    (s.raise e).sr.getLsbD 30 = true := by
  unfold State.raise
  split
  · next hb =>
    simp only [State.manualReset, State.resetWith_sr, BitVec.getLsbD_or,
      Sr.resetBits_getLsbD s.platform 30 (by decide)]
    simp [h hb]
  · simp [Sr.entryBits]

/-! ### Stores -/

/-- Storing into a control register leaves everything else alone. -/
theorem CtrlReg.set_eq (r : CtrlReg) (v : Word) (s : State) : ∃ e t i h l m b,
    r.set v s = { s with expevt := e, tra := t, intevt := i, pteh := h, ptel := l, mmucr := m, stbcr := b } := by
  cases r <;> exact ⟨_, _, _, _, _, _, _, rfl⟩

/-- Writing one byte changes memory or one of the memory-mapped registers and nothing else. -/
theorem State.writeByte_eq (s : State) (a : Word) (b : Byte) : ∃ e t i h l m c mem,
    s.writeByte a b =
      { s with expevt := e, tra := t, intevt := i, pteh := h, ptel := l, mmucr := m, stbcr := c, mem := mem } := by
  unfold State.writeByte
  split
  · next r k _ =>
    obtain ⟨e, t, i, h, l, m, c, hr⟩ := CtrlReg.set_eq r (withByteAt (r.get s) (r.place s.littleEndian k) b) s
    exact ⟨e, t, i, h, l, m, c, s.mem, hr⟩
  · exact ⟨_, _, _, _, _, _, _, _, rfl⟩

/-- Writing bytes changes memory and the memory-mapped registers and nothing else. -/
theorem State.writeBytes_eq (bs : List Byte) (s : State) (a : Word) : ∃ e t i h l m c mem,
    s.writeBytes a bs =
      { s with expevt := e, tra := t, intevt := i, pteh := h, ptel := l, mmucr := m, stbcr := c, mem := mem } := by
  induction bs generalizing s a with
  | nil => exact ⟨_, _, _, _, _, _, _, _, rfl⟩
  | cons b rest ih =>
    obtain ⟨e, t, i, h, l, m, c, mem, hb⟩ := State.writeByte_eq s a b
    obtain ⟨e', t', i', h', l', m', c', mem', hr⟩ := ih (s.writeByte a b) (a + 1#32)
    refine ⟨e', t', i', h', l', m', c', mem', ?_⟩
    rw [State.writeBytes, hr, hb]

/-- A store changes memory, the memory-mapped registers and the record of device events, and nothing else. -/
theorem State.memWrite_eq (s : State) (a : Word) (z : Size) (v : Word) : ∃ e t i h l m c mem out,
    s.memWrite a z v =
      { s with
        expevt := e, tra := t, intevt := i, pteh := h, ptel := l, mmucr := m, stbcr := c, mem := mem
        deviceOut := out } := by
  unfold State.memWrite
  split
  · exact ⟨_, _, _, _, _, _, _, _, _, rfl⟩
  · obtain ⟨e, t, i, h, l, m, c, mem, hb⟩ := State.writeBytes_eq (bytesOf s.littleEndian z v) s a
    exact ⟨e, t, i, h, l, m, c, mem, s.deviceOut, hb⟩

@[simp] theorem State.memWrite_gpr (s : State) (a : Word) (z : Size) (v : Word) :
    (s.memWrite a z v).gpr = s.gpr := by
  obtain ⟨_, _, _, _, _, _, _, _, _, h⟩ := State.memWrite_eq s a z v; rw [h]
@[simp] theorem State.memWrite_sr (s : State) (a : Word) (z : Size) (v : Word) :
    (s.memWrite a z v).sr = s.sr := by
  obtain ⟨_, _, _, _, _, _, _, _, _, h⟩ := State.memWrite_eq s a z v; rw [h]
@[simp] theorem State.memWrite_gbr (s : State) (a : Word) (z : Size) (v : Word) :
    (s.memWrite a z v).gbr = s.gbr := by
  obtain ⟨_, _, _, _, _, _, _, _, _, h⟩ := State.memWrite_eq s a z v; rw [h]
@[simp] theorem State.memWrite_vbr (s : State) (a : Word) (z : Size) (v : Word) :
    (s.memWrite a z v).vbr = s.vbr := by
  obtain ⟨_, _, _, _, _, _, _, _, _, h⟩ := State.memWrite_eq s a z v; rw [h]
@[simp] theorem State.memWrite_ssr (s : State) (a : Word) (z : Size) (v : Word) :
    (s.memWrite a z v).ssr = s.ssr := by
  obtain ⟨_, _, _, _, _, _, _, _, _, h⟩ := State.memWrite_eq s a z v; rw [h]
@[simp] theorem State.memWrite_spc (s : State) (a : Word) (z : Size) (v : Word) :
    (s.memWrite a z v).spc = s.spc := by
  obtain ⟨_, _, _, _, _, _, _, _, _, h⟩ := State.memWrite_eq s a z v; rw [h]
@[simp] theorem State.memWrite_mach (s : State) (a : Word) (z : Size) (v : Word) :
    (s.memWrite a z v).mach = s.mach := by
  obtain ⟨_, _, _, _, _, _, _, _, _, h⟩ := State.memWrite_eq s a z v; rw [h]
@[simp] theorem State.memWrite_macl (s : State) (a : Word) (z : Size) (v : Word) :
    (s.memWrite a z v).macl = s.macl := by
  obtain ⟨_, _, _, _, _, _, _, _, _, h⟩ := State.memWrite_eq s a z v; rw [h]
@[simp] theorem State.memWrite_pr (s : State) (a : Word) (z : Size) (v : Word) :
    (s.memWrite a z v).pr = s.pr := by
  obtain ⟨_, _, _, _, _, _, _, _, _, h⟩ := State.memWrite_eq s a z v; rw [h]
@[simp] theorem State.memWrite_pc (s : State) (a : Word) (z : Size) (v : Word) :
    (s.memWrite a z v).pc = s.pc := by
  obtain ⟨_, _, _, _, _, _, _, _, _, h⟩ := State.memWrite_eq s a z v; rw [h]
@[simp] theorem State.memWrite_tlb (s : State) (a : Word) (z : Size) (v : Word) :
    (s.memWrite a z v).tlb = s.tlb := by
  obtain ⟨_, _, _, _, _, _, _, _, _, h⟩ := State.memWrite_eq s a z v; rw [h]
@[simp] theorem State.memWrite_littleEndian (s : State) (a : Word) (z : Size) (v : Word) :
    (s.memWrite a z v).littleEndian = s.littleEndian := by
  obtain ⟨_, _, _, _, _, _, _, _, _, h⟩ := State.memWrite_eq s a z v; rw [h]
@[simp] theorem State.memWrite_md5 (s : State) (a : Word) (z : Size) (v : Word) :
    (s.memWrite a z v).md5 = s.md5 := by
  obtain ⟨_, _, _, _, _, _, _, _, _, h⟩ := State.memWrite_eq s a z v; rw [h]
@[simp] theorem State.memWrite_pending (s : State) (a : Word) (z : Size) (v : Word) :
    (s.memWrite a z v).pending = s.pending := by
  obtain ⟨_, _, _, _, _, _, _, _, _, h⟩ := State.memWrite_eq s a z v; rw [h]
@[simp] theorem State.memWrite_mode (s : State) (a : Word) (z : Size) (v : Word) :
    (s.memWrite a z v).mode = s.mode := by
  obtain ⟨_, _, _, _, _, _, _, _, _, h⟩ := State.memWrite_eq s a z v; rw [h]
@[simp] theorem State.memWrite_memMap (s : State) (a : Word) (z : Size) (v : Word) :
    (s.memWrite a z v).memMap = s.memMap := by
  obtain ⟨_, _, _, _, _, _, _, _, _, h⟩ := State.memWrite_eq s a z v; rw [h]
@[simp] theorem State.memWrite_platform (s : State) (a : Word) (z : Size) (v : Word) :
    (s.memWrite a z v).platform = s.platform := by
  obtain ⟨_, _, _, _, _, _, _, _, _, h⟩ := State.memWrite_eq s a z v; rw [h]
@[simp] theorem State.memWrite_deviceIn (s : State) (a : Word) (z : Size) (v : Word) :
    (s.memWrite a z v).deviceIn = s.deviceIn := by
  obtain ⟨_, _, _, _, _, _, _, _, _, h⟩ := State.memWrite_eq s a z v; rw [h]
@[simp] theorem State.memWrite_inputs (s : State) (a : Word) (z : Size) (v : Word) :
    (s.memWrite a z v).inputs = s.inputs := by
  obtain ⟨_, _, _, _, _, _, _, _, _, h⟩ := State.memWrite_eq s a z v; rw [h]
@[simp] theorem State.memWrite_freeCount (s : State) (a : Word) (z : Size) (v : Word) :
    (s.memWrite a z v).freeCount = s.freeCount := by
  obtain ⟨_, _, _, _, _, _, _, _, _, h⟩ := State.memWrite_eq s a z v; rw [h]

/-- A store leaves the system registers alone. -/
@[simp] theorem State.memWrite_system (s : State) (a : Word) (z : Size) (v : Word) :
    (s.memWrite a z v).system = s.system := by simp [State.system]

/-! ### The TLB -/

/-- LDTLB writes one entry where the platform has it, and otherwise nothing. -/
theorem State.mem_loadTlb (s : State) (e : TlbEntry) (h : e ∈ s.loadTlb.tlb) :
    e ∈ s.tlb ∨ (e = s.tlbEntry ∧ s.tlbHasEntry = true) := by
  rw [State.loadTlb_tlb] at h
  split at h
  · next hk => exact (Tlb.mem_write _ _ _ h).elim (fun he => .inr ⟨he, hk⟩) .inl
  · exact .inl h

/-- LDTLB keeps the TLB canonical. -/
theorem State.wf_loadTlb (s : State) (h : Tlb.wf s.tlb = true) : Tlb.wf s.loadTlb.tlb = true := by
  rw [State.loadTlb_tlb]
  split
  · exact Tlb.wf_write _ _ h
  · exact h

/-- LDTLB keeps the entries within the platform's geometry. -/
theorem State.loadTlb_inRange (s : State) (h : s.tlbInRange) : s.loadTlb.tlbInRange := by
  intro e he
  rcases State.mem_loadTlb s e he with hm | ⟨rfl, hk⟩
  · exact h e hm
  · simp only [State.tlbHasEntry, Bool.and_eq_true, decide_eq_true_eq] at hk
    exact ⟨Nat.mod_lt _ hk.2, hk.1⟩

/-! ### The frames of the meanings -/

/-- A privileged instruction in privileged mode. -/
theorem privileged_md (s : State) (rest : Result) (h : s.md = true) : privileged s rest = rest := by
  simp [privileged, h]

/-- A privileged instruction in user mode. -/
theorem privileged_user (s : State) (rest : Result) (h : s.md = false) :
    privileged s rest = .next s.raiseIllegal := by
  simp [privileged, h]

/-- What a privileged instruction can answer. -/
theorem privileged_next (s t : State) (rest : Result) (h : privileged s rest = .next t) :
    (s.md = true ∧ rest = .next t) ∨ (s.md = false ∧ t = s.raiseIllegal) := by
  unfold privileged at h
  split at h
  · next hm => exact .inl ⟨hm, h⟩
  · next hm => exact .inr ⟨by simpa using hm, by cases h; rfl⟩

/-- Outside a delay slot. -/
theorem outsideSlot_none (s : State) (rest : Result) (h : s.pending = none) : outsideSlot s rest = rest := by
  simp [outsideSlot, h]

/-- In a delay slot. -/
theorem outsideSlot_some (s : State) (rest : Result) (h : s.pending ≠ none) :
    outsideSlot s rest = .next (s.raise .slotIllegal) := by
  cases hp : s.pending with
  | none => exact absurd hp h
  | some _ => simp [outsideSlot, hp]

/-- What an instruction that is illegal in a delay slot can answer. -/
theorem outsideSlot_next (s t : State) (rest : Result) (h : outsideSlot s rest = .next t) :
    (s.pending = none ∧ rest = .next t) ∨ (s.pending ≠ none ∧ t = s.raise .slotIllegal) := by
  by_cases hp : s.pending = none
  · exact .inl ⟨hp, outsideSlot_none s rest hp ▸ h⟩
  · rw [outsideSlot_some s rest hp] at h
    exact .inr ⟨hp, by cases h; rfl⟩

/-- What an instruction can answer that checks an access before the rest. -/
theorem checked_next (s t : State) (k : AccessKind) (a : Word) (z : Size) (rest : Result)
    (h : checked s k a z rest = .next t) :
    (s.accessOk k a z = true ∧ rest = .next t) ∨ (s.accessOk k a z = false ∧ t = s.raise (.addressError k)) := by
  unfold checked at h
  split at h
  · next hk => exact .inl ⟨hk, h⟩
  · next hk => exact .inr ⟨by simpa using hk, by cases h; rfl⟩

/-- An admitted access. -/
theorem checked_ok (s : State) (k : AccessKind) (a : Word) (z : Size) (rest : Result) (h : s.accessOk k a z = true) :
    checked s k a z rest = rest := by
  simp [checked, h]

/-- A refused access. -/
theorem checked_refused (s : State) (k : AccessKind) (a : Word) (z : Size) (rest : Result)
    (h : s.accessOk k a z = false) : checked s k a z rest = .next (s.raise (.addressError k)) := by
  simp [checked, h]

/-- What an instruction that reads memory can answer. -/
theorem withRead_next (s t : State) (a : Word) (z : Size) (rest : Word → State → Result)
    (h : withRead s a z rest = .next t) :
    (s.accessOk .read a z = true ∧ rest (s.memRead a z) (s.afterRead a z) = .next t) ∨
      (s.accessOk .read a z = false ∧ t = s.raise (.addressError .read)) :=
  checked_next s t .read a z _ h

/-- What an instruction that writes memory can answer. -/
theorem withWrite_next (s t : State) (a : Word) (z : Size) (v : Word) (rest : State → Result)
    (h : withWrite s a z v rest = .next t) :
    (s.accessOk .write a z = true ∧ rest (s.memWrite a z v) = .next t) ∨
      (s.accessOk .write a z = false ∧ t = s.raise (.addressError .write)) :=
  checked_next s t .write a z _ h

/-- A result in a register. -/
theorem putReg_next (n : RegNum) (v : Word) (s : State) : putReg n v s = .next (s.setReg n v).advance := rfl

/-- A result in a register and a new T. -/
theorem putRegT_next (n : RegNum) (v : Word) (b : Bool) (s : State) :
    putRegT n v b s = .next ((s.setReg n v).setT b).advance := rfl

/-- A new T. -/
theorem putT_next (b : Bool) (s : State) : putT b s = .next (s.setT b).advance := rfl

/-! ### Shared shapes of the families -/

/-- What a load can answer. -/
theorem load_next (z : Size) (a : Word) (n : RegNum) (s t : State) (h : load z a n s = .next t) :
    (s.accessOk .read a z = true ∧ t = ((s.afterRead a z).setReg n (z.extend (s.memRead a z))).advance) ∨
      (s.accessOk .read a z = false ∧ t = s.raise (.addressError .read)) := by
  rcases withRead_next s t a z _ h with ⟨hk, hr⟩ | hr
  · exact .inl ⟨hk, by cases hr; rfl⟩
  · exact .inr hr

/-- What a store can answer. -/
theorem store_next (z : Size) (a : Word) (m : RegNum) (s t : State) (h : store z a m s = .next t) :
    (s.accessOk .write a z = true ∧ t = (s.memWrite a z (s.reg m)).advance) ∨
      (s.accessOk .write a z = false ∧ t = s.raise (.addressError .write)) := by
  rcases withWrite_next s t a z _ _ h with ⟨hk, hr⟩ | hr
  · exact .inl ⟨hk, by cases hr; rfl⟩
  · exact .inr hr

/-- What a store with pre-decrement can answer. -/
theorem storePreDec_next (z : Size) (m n : RegNum) (s t : State) (h : storePreDec z m n s = .next t) :
    (s.accessOk .write (s.preDec n z) z = true ∧
        t = ((s.memWrite (s.preDec n z) z (s.reg m)).setReg n (s.preDec n z)).advance) ∨
      (s.accessOk .write (s.preDec n z) z = false ∧ t = s.raise (.addressError .write)) := by
  rcases withWrite_next s t _ z _ _ h with ⟨hk, hr⟩ | hr
  · exact .inl ⟨hk, by cases hr; rfl⟩
  · exact .inr hr

/-- What a load with post-increment can answer. -/
theorem loadPostInc_next (z : Size) (m n : RegNum) (s t : State) (h : loadPostInc z m n s = .next t) :
    (s.accessOk .read (s.reg m) z = true ∧
        t =
          (((s.afterRead (s.reg m) z).setReg m (s.postInc m z)).setReg n
            (z.extend (s.memRead (s.reg m) z))).advance) ∨
      (s.accessOk .read (s.reg m) z = false ∧ t = s.raise (.addressError .read)) := by
  rcases withRead_next s t _ z _ h with ⟨hk, hr⟩ | hr
  · exact .inl ⟨hk, by cases hr; rfl⟩
  · exact .inr hr

/-- What a multiply-accumulate can answer. -/
theorem multiplyAccumulate_next (z : Size) (f : BitVec 64 → Bool → Word → Word → BitVec 64) (m n : RegNum)
    (s t : State) (h : multiplyAccumulate z f m n s = .next t) :
    (s.accessOk .read (s.reg n) z = true ∧ s.accessOk .read (s.macSecond z m n) z = true ∧
        t =
          ((s.afterRead (s.reg n) z).afterRead (s.macSecond z m n) z).accumulate z m n
            (f s.mac s.satS (s.memRead (s.reg n) z)
              ((s.afterRead (s.reg n) z).memRead (s.macSecond z m n) z))) ∨
      ((s.accessOk .read (s.reg n) z = false ∨ s.accessOk .read (s.macSecond z m n) z = false) ∧
        t = s.raise (.addressError .read)) := by
  rcases checked_next s t _ _ z _ h with ⟨hn, hr⟩ | ⟨hn, hr⟩
  · rcases checked_next s t _ _ z _ hr with ⟨hm, hr⟩ | ⟨hm, hr⟩
    · exact .inl ⟨hn, hm, by cases hr; rfl⟩
    · exact .inr ⟨.inr hm, hr⟩
  · exact .inr ⟨.inl hn, hr⟩

/-- What a read-modify-write of a byte can answer. -/
theorem modifyByte_next (a : Word) (f : Word → Word) (after : Word → State → State) (s t : State)
    (h : modifyByte a f after s = .next t) :
    (s.accessOk .read a .byte = true ∧ s.accessOk .write a .byte = true ∧
        t =
          (after (s.memRead a .byte)
            ((s.afterRead a .byte).memWrite a .byte (f (s.memRead a .byte)))).advance) ∨
      (s.accessOk .read a .byte = false ∧ t = s.raise (.addressError .read)) ∨
      (s.accessOk .read a .byte = true ∧ s.accessOk .write a .byte = false ∧
        t = s.raise (.addressError .write)) := by
  rcases checked_next s t _ _ _ _ h with ⟨hr, h⟩ | h
  · rcases checked_next s t _ _ _ _ h with ⟨hw, h⟩ | ⟨hw, h⟩
    · exact .inl ⟨hr, hw, by cases h; rfl⟩
    · exact .inr (.inr ⟨hr, hw, h⟩)
  · exact .inr (.inl h)

/-- What a conditional branch without a delay slot can answer. -/
theorem branchIf_next (c : Bool) (disp : BitVec 8) (s t : State) (h : branchIf c disp s = .next t) :
    (s.pending = none ∧ t = if c then s.branch (s.relTarget disp) else s.advance) ∨
      (s.pending ≠ none ∧ t = s.raise .slotIllegal) := by
  rcases outsideSlot_next s t _ h with ⟨hp, hr⟩ | hr
  · exact .inl ⟨hp, by cases hr; rfl⟩
  · exact .inr hr

/-- What a conditional branch with a delay slot can answer. -/
theorem delayedBranchIf_next (c : Bool) (disp : BitVec 8) (s t : State) (h : delayedBranchIf c disp s = .next t) :
    (s.pending = none ∧ t = if c then s.delayedBranch (s.relTarget disp) else s.advance) ∨
      (s.pending ≠ none ∧ t = s.raise .slotIllegal) := by
  rcases outsideSlot_next s t _ h with ⟨hp, hr⟩ | hr
  · exact .inl ⟨hp, by cases hr; rfl⟩
  · exact .inr hr

/-- What a delayed branch can answer. -/
theorem jump_next (target : Word) (s t : State) (h : jump target s = .next t) :
    (s.pending = none ∧ t = s.delayedBranch target) ∨ (s.pending ≠ none ∧ t = s.raise .slotIllegal) := by
  rcases outsideSlot_next s t _ h with ⟨hp, hr⟩ | hr
  · exact .inl ⟨hp, by cases hr; rfl⟩
  · exact .inr hr

/-- What a subroutine call can answer. -/
theorem call_next (target : Word) (s t : State) (h : call target s = .next t) :
    (s.pending = none ∧ t = (s.setPr s.returnAddress).delayedBranch target) ∨
      (s.pending ≠ none ∧ t = s.raise .slotIllegal) := by
  rcases outsideSlot_next s t _ h with ⟨hp, hr⟩ | hr
  · exact .inl ⟨hp, by cases hr; rfl⟩
  · exact .inr hr

/-- What LDC and LDS from a register answer. -/
theorem loadControl_next (put : State → Word → State) (m : RegNum) (s : State) :
    loadControl put m s = .next (put s (s.reg m)).advance := rfl

/-- What LDC.L and LDS.L can answer. -/
theorem loadControlMem_next (put : State → Word → State) (m : RegNum) (s t : State)
    (h : loadControlMem put m s = .next t) :
    (s.accessOk .read (s.reg m) .long = true ∧
        t =
          (put ((s.afterRead (s.reg m) .long).setReg m (s.postInc m .long))
            (s.memRead (s.reg m) .long)).advance) ∨
      (s.accessOk .read (s.reg m) .long = false ∧ t = s.raise (.addressError .read)) := by
  rcases withRead_next s t _ _ _ h with ⟨hk, hr⟩ | hr
  · exact .inl ⟨hk, by cases hr; rfl⟩
  · exact .inr hr

/-- What STC and STS to a register answer. -/
theorem storeControl_next (v : Word) (n : RegNum) (s : State) :
    storeControl v n s = .next (s.setReg n v).advance := rfl

/-- What STC.L and STS.L can answer. -/
theorem storeControlMem_next (v : Word) (n : RegNum) (s t : State) (h : storeControlMem v n s = .next t) :
    (s.accessOk .write (s.preDec n .long) .long = true ∧
        t = ((s.memWrite (s.preDec n .long) .long v).setReg n (s.preDec n .long)).advance) ∨
      (s.accessOk .write (s.preDec n .long) .long = false ∧ t = s.raise (.addressError .write)) := by
  rcases withWrite_next s t _ _ _ _ h with ⟨hk, hr⟩ | hr
  · exact .inl ⟨hk, by cases hr; rfl⟩
  · exact .inr hr

end Sys2Proof.Machine
end

