-- ==== Sys2Proof/Laws/PerInstr.lean ====
section
/-! SUPPORT. The family FixedBits: the bits that an instruction's encoding fixes are those of its row of
spec/opcode_table.json (30_encoding.md R111, R123). -/

namespace Sys2Proof.Laws

/-- A word's fields under each mask that the table uses. -/
theorem join_F000 (a b c d : BitVec 4) : join a b c d &&& 0xF000#16 = join a 0#4 0#4 0#4 := by
  refine BitVec.eq_of_getLsbD_eq fun i hi => ?_
  interval_cases i <;> simp only [join, BitVec.getLsbD_and, BitVec.getLsbD_append] <;> simp

/-- The first and the last field. -/
theorem join_F00F (a b c d : BitVec 4) : join a b c d &&& 0xF00F#16 = join a 0#4 0#4 d := by
  refine BitVec.eq_of_getLsbD_eq fun i hi => ?_
  interval_cases i <;> simp only [join, BitVec.getLsbD_and, BitVec.getLsbD_append] <;> simp

/-- The first and the last two fields. -/
theorem join_F0FF (a b c d : BitVec 4) : join a b c d &&& 0xF0FF#16 = join a 0#4 c d := by
  refine BitVec.eq_of_getLsbD_eq fun i hi => ?_
  interval_cases i <;> simp only [join, BitVec.getLsbD_and, BitVec.getLsbD_append] <;> simp

/-- The first two fields. -/
theorem join_FF00 (a b c d : BitVec 4) : join a b c d &&& 0xFF00#16 = join a b 0#4 0#4 := by
  refine BitVec.eq_of_getLsbD_eq fun i hi => ?_
  interval_cases i <;> simp only [join, BitVec.getLsbD_and, BitVec.getLsbD_append] <;> simp

/-- Every field. -/
theorem join_FFFF (a b c d : BitVec 4) : join a b c d &&& 0xFFFF#16 = join a b c d := by
  refine BitVec.eq_of_getLsbD_eq fun i hi => ?_
  interval_cases i <;> simp only [join, BitVec.getLsbD_and, BitVec.getLsbD_append] <;> simp

/-- The first field of a word that ends in a byte. -/
theorem joinByte_F000 (a b : BitVec 4) (low : BitVec 8) : joinByte a b low &&& 0xF000#16 = join a 0#4 0#4 0#4 := by
  refine BitVec.eq_of_getLsbD_eq fun i hi => ?_
  interval_cases i <;> simp only [join, joinByte, BitVec.getLsbD_and, BitVec.getLsbD_append] <;> simp

/-- The first two fields of a word that ends in a byte. -/
theorem joinByte_FF00 (a b : BitVec 4) (low : BitVec 8) : joinByte a b low &&& 0xFF00#16 = join a b 0#4 0#4 := by
  refine BitVec.eq_of_getLsbD_eq fun i hi => ?_
  interval_cases i <;> simp only [join, joinByte, BitVec.getLsbD_and, BitVec.getLsbD_append] <;> simp

/-- The first field of a word that ends in a 12-bit displacement. -/
theorem joinDisp12_F000 (a : BitVec 4) (low : BitVec 12) : joinDisp12 a low &&& 0xF000#16 = join a 0#4 0#4 0#4 := by
  refine BitVec.eq_of_getLsbD_eq fun i hi => ?_
  interval_cases i <;> simp only [join, joinDisp12, BitVec.getLsbD_and, BitVec.getLsbD_append] <;> simp

/-- The mask and the match of an instruction's row in spec/opcode_table.json. -/
def FixedBits.row : Instr → Half × Half
  | .movImm _ _ => (0xF000#16, 0xE000#16)
  | .movWLoadPc _ _ => (0xF000#16, 0x9000#16)
  | .movLLoadPc _ _ => (0xF000#16, 0xD000#16)
  | .mov _ _ => (0xF00F#16, 0x6003#16)
  | .movBStore _ _ => (0xF00F#16, 0x2000#16)
  | .movWStore _ _ => (0xF00F#16, 0x2001#16)
  | .movLStore _ _ => (0xF00F#16, 0x2002#16)
  | .movBLoad _ _ => (0xF00F#16, 0x6000#16)
  | .movWLoad _ _ => (0xF00F#16, 0x6001#16)
  | .movLLoad _ _ => (0xF00F#16, 0x6002#16)
  | .movBPreDec _ _ => (0xF00F#16, 0x2004#16)
  | .movWPreDec _ _ => (0xF00F#16, 0x2005#16)
  | .movLPreDec _ _ => (0xF00F#16, 0x2006#16)
  | .movBPostInc _ _ => (0xF00F#16, 0x6004#16)
  | .movWPostInc _ _ => (0xF00F#16, 0x6005#16)
  | .movLPostInc _ _ => (0xF00F#16, 0x6006#16)
  | .movBStoreDisp _ _ => (0xFF00#16, 0x8000#16)
  | .movWStoreDisp _ _ => (0xFF00#16, 0x8100#16)
  | .movLStoreDisp _ _ _ => (0xF000#16, 0x1000#16)
  | .movBLoadDisp _ _ => (0xFF00#16, 0x8400#16)
  | .movWLoadDisp _ _ => (0xFF00#16, 0x8500#16)
  | .movLLoadDisp _ _ _ => (0xF000#16, 0x5000#16)
  | .movBStoreIdx _ _ => (0xF00F#16, 0x0004#16)
  | .movWStoreIdx _ _ => (0xF00F#16, 0x0005#16)
  | .movLStoreIdx _ _ => (0xF00F#16, 0x0006#16)
  | .movBLoadIdx _ _ => (0xF00F#16, 0x000C#16)
  | .movWLoadIdx _ _ => (0xF00F#16, 0x000D#16)
  | .movLLoadIdx _ _ => (0xF00F#16, 0x000E#16)
  | .movBStoreGbr _ => (0xFF00#16, 0xC000#16)
  | .movWStoreGbr _ => (0xFF00#16, 0xC100#16)
  | .movLStoreGbr _ => (0xFF00#16, 0xC200#16)
  | .movBLoadGbr _ => (0xFF00#16, 0xC400#16)
  | .movWLoadGbr _ => (0xFF00#16, 0xC500#16)
  | .movLLoadGbr _ => (0xFF00#16, 0xC600#16)
  | .mova _ => (0xFF00#16, 0xC700#16)
  | .movt _ => (0xF0FF#16, 0x0029#16)
  | .pref _ => (0xF0FF#16, 0x0083#16)
  | .swapB _ _ => (0xF00F#16, 0x6008#16)
  | .swapW _ _ => (0xF00F#16, 0x6009#16)
  | .xtrct _ _ => (0xF00F#16, 0x200D#16)
  | .add _ _ => (0xF00F#16, 0x300C#16)
  | .addImm _ _ => (0xF000#16, 0x7000#16)
  | .addc _ _ => (0xF00F#16, 0x300E#16)
  | .addv _ _ => (0xF00F#16, 0x300F#16)
  | .cmpEqImm _ => (0xFF00#16, 0x8800#16)
  | .cmpEq _ _ => (0xF00F#16, 0x3000#16)
  | .cmpHs _ _ => (0xF00F#16, 0x3002#16)
  | .cmpGe _ _ => (0xF00F#16, 0x3003#16)
  | .cmpHi _ _ => (0xF00F#16, 0x3006#16)
  | .cmpGt _ _ => (0xF00F#16, 0x3007#16)
  | .cmpPz _ => (0xF0FF#16, 0x4011#16)
  | .cmpPl _ => (0xF0FF#16, 0x4015#16)
  | .cmpStr _ _ => (0xF00F#16, 0x200C#16)
  | .div1 _ _ => (0xF00F#16, 0x3004#16)
  | .div0s _ _ => (0xF00F#16, 0x2007#16)
  | .div0u => (0xFFFF#16, 0x0019#16)
  | .dmulsL _ _ => (0xF00F#16, 0x300D#16)
  | .dmuluL _ _ => (0xF00F#16, 0x3005#16)
  | .dt _ => (0xF0FF#16, 0x4010#16)
  | .extsB _ _ => (0xF00F#16, 0x600E#16)
  | .extsW _ _ => (0xF00F#16, 0x600F#16)
  | .extuB _ _ => (0xF00F#16, 0x600C#16)
  | .extuW _ _ => (0xF00F#16, 0x600D#16)
  | .macL _ _ => (0xF00F#16, 0x000F#16)
  | .macW _ _ => (0xF00F#16, 0x400F#16)
  | .mulL _ _ => (0xF00F#16, 0x0007#16)
  | .mulsW _ _ => (0xF00F#16, 0x200F#16)
  | .muluW _ _ => (0xF00F#16, 0x200E#16)
  | .neg _ _ => (0xF00F#16, 0x600B#16)
  | .negc _ _ => (0xF00F#16, 0x600A#16)
  | .sub _ _ => (0xF00F#16, 0x3008#16)
  | .subc _ _ => (0xF00F#16, 0x300A#16)
  | .subv _ _ => (0xF00F#16, 0x300B#16)
  | .and _ _ => (0xF00F#16, 0x2009#16)
  | .andImm _ => (0xFF00#16, 0xC900#16)
  | .andB _ => (0xFF00#16, 0xCD00#16)
  | .not _ _ => (0xF00F#16, 0x6007#16)
  | .or _ _ => (0xF00F#16, 0x200B#16)
  | .orImm _ => (0xFF00#16, 0xCB00#16)
  | .orB _ => (0xFF00#16, 0xCF00#16)
  | .tasB _ => (0xF0FF#16, 0x401B#16)
  | .tst _ _ => (0xF00F#16, 0x2008#16)
  | .tstImm _ => (0xFF00#16, 0xC800#16)
  | .tstB _ => (0xFF00#16, 0xCC00#16)
  | .xor _ _ => (0xF00F#16, 0x200A#16)
  | .xorImm _ => (0xFF00#16, 0xCA00#16)
  | .xorB _ => (0xFF00#16, 0xCE00#16)
  | .rotl _ => (0xF0FF#16, 0x4004#16)
  | .rotr _ => (0xF0FF#16, 0x4005#16)
  | .rotcl _ => (0xF0FF#16, 0x4024#16)
  | .rotcr _ => (0xF0FF#16, 0x4025#16)
  | .shad _ _ => (0xF00F#16, 0x400C#16)
  | .shal _ => (0xF0FF#16, 0x4020#16)
  | .shar _ => (0xF0FF#16, 0x4021#16)
  | .shld _ _ => (0xF00F#16, 0x400D#16)
  | .shll _ => (0xF0FF#16, 0x4000#16)
  | .shlr _ => (0xF0FF#16, 0x4001#16)
  | .shll2 _ => (0xF0FF#16, 0x4008#16)
  | .shlr2 _ => (0xF0FF#16, 0x4009#16)
  | .shll8 _ => (0xF0FF#16, 0x4018#16)
  | .shlr8 _ => (0xF0FF#16, 0x4019#16)
  | .shll16 _ => (0xF0FF#16, 0x4028#16)
  | .shlr16 _ => (0xF0FF#16, 0x4029#16)
  | .bf _ => (0xFF00#16, 0x8B00#16)
  | .bfS _ => (0xFF00#16, 0x8F00#16)
  | .bt _ => (0xFF00#16, 0x8900#16)
  | .btS _ => (0xFF00#16, 0x8D00#16)
  | .bra _ => (0xF000#16, 0xA000#16)
  | .braf _ => (0xF0FF#16, 0x0023#16)
  | .bsr _ => (0xF000#16, 0xB000#16)
  | .bsrf _ => (0xF0FF#16, 0x0003#16)
  | .jmp _ => (0xF0FF#16, 0x402B#16)
  | .jsr _ => (0xF0FF#16, 0x400B#16)
  | .rts => (0xFFFF#16, 0x000B#16)
  | .clrmac => (0xFFFF#16, 0x0028#16)
  | .clrs => (0xFFFF#16, 0x0048#16)
  | .clrt => (0xFFFF#16, 0x0008#16)
  | .ldcSr _ => (0xF0FF#16, 0x400E#16)
  | .ldcGbr _ => (0xF0FF#16, 0x401E#16)
  | .ldcVbr _ => (0xF0FF#16, 0x402E#16)
  | .ldcSsr _ => (0xF0FF#16, 0x403E#16)
  | .ldcSpc _ => (0xF0FF#16, 0x404E#16)
  | .ldcR0Bank _ => (0xF0FF#16, 0x408E#16)
  | .ldcR1Bank _ => (0xF0FF#16, 0x409E#16)
  | .ldcR2Bank _ => (0xF0FF#16, 0x40AE#16)
  | .ldcR3Bank _ => (0xF0FF#16, 0x40BE#16)
  | .ldcR4Bank _ => (0xF0FF#16, 0x40CE#16)
  | .ldcR5Bank _ => (0xF0FF#16, 0x40DE#16)
  | .ldcR6Bank _ => (0xF0FF#16, 0x40EE#16)
  | .ldcR7Bank _ => (0xF0FF#16, 0x40FE#16)
  | .ldcLSr _ => (0xF0FF#16, 0x4007#16)
  | .ldcLGbr _ => (0xF0FF#16, 0x4017#16)
  | .ldcLVbr _ => (0xF0FF#16, 0x4027#16)
  | .ldcLSsr _ => (0xF0FF#16, 0x4037#16)
  | .ldcLSpc _ => (0xF0FF#16, 0x4047#16)
  | .ldcLR0Bank _ => (0xF0FF#16, 0x4087#16)
  | .ldcLR1Bank _ => (0xF0FF#16, 0x4097#16)
  | .ldcLR2Bank _ => (0xF0FF#16, 0x40A7#16)
  | .ldcLR3Bank _ => (0xF0FF#16, 0x40B7#16)
  | .ldcLR4Bank _ => (0xF0FF#16, 0x40C7#16)
  | .ldcLR5Bank _ => (0xF0FF#16, 0x40D7#16)
  | .ldcLR6Bank _ => (0xF0FF#16, 0x40E7#16)
  | .ldcLR7Bank _ => (0xF0FF#16, 0x40F7#16)
  | .ldsMach _ => (0xF0FF#16, 0x400A#16)
  | .ldsMacl _ => (0xF0FF#16, 0x401A#16)
  | .ldsPr _ => (0xF0FF#16, 0x402A#16)
  | .ldsLMach _ => (0xF0FF#16, 0x4006#16)
  | .ldsLMacl _ => (0xF0FF#16, 0x4016#16)
  | .ldsLPr _ => (0xF0FF#16, 0x4026#16)
  | .nop => (0xFFFF#16, 0x0009#16)
  | .rte => (0xFFFF#16, 0x002B#16)
  | .sets => (0xFFFF#16, 0x0058#16)
  | .ldtlb => (0xFFFF#16, 0x0038#16)
  | .sett => (0xFFFF#16, 0x0018#16)
  | .sleep => (0xFFFF#16, 0x001B#16)
  | .stcSr _ => (0xF0FF#16, 0x0002#16)
  | .stcGbr _ => (0xF0FF#16, 0x0012#16)
  | .stcVbr _ => (0xF0FF#16, 0x0022#16)
  | .stcSsr _ => (0xF0FF#16, 0x0032#16)
  | .stcSpc _ => (0xF0FF#16, 0x0042#16)
  | .stcR0Bank _ => (0xF0FF#16, 0x0082#16)
  | .stcR1Bank _ => (0xF0FF#16, 0x0092#16)
  | .stcR2Bank _ => (0xF0FF#16, 0x00A2#16)
  | .stcR3Bank _ => (0xF0FF#16, 0x00B2#16)
  | .stcR4Bank _ => (0xF0FF#16, 0x00C2#16)
  | .stcR5Bank _ => (0xF0FF#16, 0x00D2#16)
  | .stcR6Bank _ => (0xF0FF#16, 0x00E2#16)
  | .stcR7Bank _ => (0xF0FF#16, 0x00F2#16)
  | .stcLSr _ => (0xF0FF#16, 0x4003#16)
  | .stcLGbr _ => (0xF0FF#16, 0x4013#16)
  | .stcLVbr _ => (0xF0FF#16, 0x4023#16)
  | .stcLSsr _ => (0xF0FF#16, 0x4033#16)
  | .stcLSpc _ => (0xF0FF#16, 0x4043#16)
  | .stcLR0Bank _ => (0xF0FF#16, 0x4083#16)
  | .stcLR1Bank _ => (0xF0FF#16, 0x4093#16)
  | .stcLR2Bank _ => (0xF0FF#16, 0x40A3#16)
  | .stcLR3Bank _ => (0xF0FF#16, 0x40B3#16)
  | .stcLR4Bank _ => (0xF0FF#16, 0x40C3#16)
  | .stcLR5Bank _ => (0xF0FF#16, 0x40D3#16)
  | .stcLR6Bank _ => (0xF0FF#16, 0x40E3#16)
  | .stcLR7Bank _ => (0xF0FF#16, 0x40F3#16)
  | .stsMach _ => (0xF0FF#16, 0x000A#16)
  | .stsMacl _ => (0xF0FF#16, 0x001A#16)
  | .stsPr _ => (0xF0FF#16, 0x002A#16)
  | .stsLMach _ => (0xF0FF#16, 0x4002#16)
  | .stsLMacl _ => (0xF0FF#16, 0x4012#16)
  | .stsLPr _ => (0xF0FF#16, 0x4022#16)
  | .trapa _ => (0xFF00#16, 0xC300#16)

/-- The bits that the row's mask selects are the row's. -/
def FixedBits.Statement (i : Instr) : Prop := encode i &&& (FixedBits.row i).1 = (FixedBits.row i).2

namespace FixedBits

theorem movImm (imm) (n) : Statement (.movImm imm n) := joinByte_F000 0xE#4 n imm
theorem movWLoadPc (disp) (n) : Statement (.movWLoadPc disp n) := joinByte_F000 0x9#4 n disp
theorem movLLoadPc (disp) (n) : Statement (.movLLoadPc disp n) := joinByte_F000 0xD#4 n disp
theorem mov (m) (n) : Statement (.mov m n) := join_F00F 0x6#4 n m 0x3#4
theorem movBStore (m) (n) : Statement (.movBStore m n) := join_F00F 0x2#4 n m 0x0#4
theorem movWStore (m) (n) : Statement (.movWStore m n) := join_F00F 0x2#4 n m 0x1#4
theorem movLStore (m) (n) : Statement (.movLStore m n) := join_F00F 0x2#4 n m 0x2#4
theorem movBLoad (m) (n) : Statement (.movBLoad m n) := join_F00F 0x6#4 n m 0x0#4
theorem movWLoad (m) (n) : Statement (.movWLoad m n) := join_F00F 0x6#4 n m 0x1#4
theorem movLLoad (m) (n) : Statement (.movLLoad m n) := join_F00F 0x6#4 n m 0x2#4
theorem movBPreDec (m) (n) : Statement (.movBPreDec m n) := join_F00F 0x2#4 n m 0x4#4
theorem movWPreDec (m) (n) : Statement (.movWPreDec m n) := join_F00F 0x2#4 n m 0x5#4
theorem movLPreDec (m) (n) : Statement (.movLPreDec m n) := join_F00F 0x2#4 n m 0x6#4
theorem movBPostInc (m) (n) : Statement (.movBPostInc m n) := join_F00F 0x6#4 n m 0x4#4
theorem movWPostInc (m) (n) : Statement (.movWPostInc m n) := join_F00F 0x6#4 n m 0x5#4
theorem movLPostInc (m) (n) : Statement (.movLPostInc m n) := join_F00F 0x6#4 n m 0x6#4
theorem movBStoreDisp (disp) (n) : Statement (.movBStoreDisp disp n) := join_FF00 0x8#4 0x0#4 n disp
theorem movWStoreDisp (disp) (n) : Statement (.movWStoreDisp disp n) := join_FF00 0x8#4 0x1#4 n disp
theorem movLStoreDisp (m) (disp) (n) : Statement (.movLStoreDisp m disp n) := join_F000 0x1#4 n m disp
theorem movBLoadDisp (disp) (m) : Statement (.movBLoadDisp disp m) := join_FF00 0x8#4 0x4#4 m disp
theorem movWLoadDisp (disp) (m) : Statement (.movWLoadDisp disp m) := join_FF00 0x8#4 0x5#4 m disp
theorem movLLoadDisp (disp) (m) (n) : Statement (.movLLoadDisp disp m n) := join_F000 0x5#4 n m disp
theorem movBStoreIdx (m) (n) : Statement (.movBStoreIdx m n) := join_F00F 0x0#4 n m 0x4#4
theorem movWStoreIdx (m) (n) : Statement (.movWStoreIdx m n) := join_F00F 0x0#4 n m 0x5#4
theorem movLStoreIdx (m) (n) : Statement (.movLStoreIdx m n) := join_F00F 0x0#4 n m 0x6#4
theorem movBLoadIdx (m) (n) : Statement (.movBLoadIdx m n) := join_F00F 0x0#4 n m 0xC#4
theorem movWLoadIdx (m) (n) : Statement (.movWLoadIdx m n) := join_F00F 0x0#4 n m 0xD#4
theorem movLLoadIdx (m) (n) : Statement (.movLLoadIdx m n) := join_F00F 0x0#4 n m 0xE#4
theorem movBStoreGbr (disp) : Statement (.movBStoreGbr disp) := joinByte_FF00 0xC#4 0x0#4 disp
theorem movWStoreGbr (disp) : Statement (.movWStoreGbr disp) := joinByte_FF00 0xC#4 0x1#4 disp
theorem movLStoreGbr (disp) : Statement (.movLStoreGbr disp) := joinByte_FF00 0xC#4 0x2#4 disp
theorem movBLoadGbr (disp) : Statement (.movBLoadGbr disp) := joinByte_FF00 0xC#4 0x4#4 disp
theorem movWLoadGbr (disp) : Statement (.movWLoadGbr disp) := joinByte_FF00 0xC#4 0x5#4 disp
theorem movLLoadGbr (disp) : Statement (.movLLoadGbr disp) := joinByte_FF00 0xC#4 0x6#4 disp
theorem mova (disp) : Statement (.mova disp) := joinByte_FF00 0xC#4 0x7#4 disp
theorem movt (n) : Statement (.movt n) := join_F0FF 0x0#4 n 0x2#4 0x9#4
theorem pref (n) : Statement (.pref n) := join_F0FF 0x0#4 n 0x8#4 0x3#4
theorem swapB (m) (n) : Statement (.swapB m n) := join_F00F 0x6#4 n m 0x8#4
theorem swapW (m) (n) : Statement (.swapW m n) := join_F00F 0x6#4 n m 0x9#4
theorem xtrct (m) (n) : Statement (.xtrct m n) := join_F00F 0x2#4 n m 0xD#4
theorem add (m) (n) : Statement (.add m n) := join_F00F 0x3#4 n m 0xC#4
theorem addImm (imm) (n) : Statement (.addImm imm n) := joinByte_F000 0x7#4 n imm
theorem addc (m) (n) : Statement (.addc m n) := join_F00F 0x3#4 n m 0xE#4
theorem addv (m) (n) : Statement (.addv m n) := join_F00F 0x3#4 n m 0xF#4
theorem cmpEqImm (imm) : Statement (.cmpEqImm imm) := joinByte_FF00 0x8#4 0x8#4 imm
theorem cmpEq (m) (n) : Statement (.cmpEq m n) := join_F00F 0x3#4 n m 0x0#4
theorem cmpHs (m) (n) : Statement (.cmpHs m n) := join_F00F 0x3#4 n m 0x2#4
theorem cmpGe (m) (n) : Statement (.cmpGe m n) := join_F00F 0x3#4 n m 0x3#4
theorem cmpHi (m) (n) : Statement (.cmpHi m n) := join_F00F 0x3#4 n m 0x6#4
theorem cmpGt (m) (n) : Statement (.cmpGt m n) := join_F00F 0x3#4 n m 0x7#4
theorem cmpPz (n) : Statement (.cmpPz n) := join_F0FF 0x4#4 n 0x1#4 0x1#4
theorem cmpPl (n) : Statement (.cmpPl n) := join_F0FF 0x4#4 n 0x1#4 0x5#4
theorem cmpStr (m) (n) : Statement (.cmpStr m n) := join_F00F 0x2#4 n m 0xC#4
theorem div1 (m) (n) : Statement (.div1 m n) := join_F00F 0x3#4 n m 0x4#4
theorem div0s (m) (n) : Statement (.div0s m n) := join_F00F 0x2#4 n m 0x7#4
theorem div0u : Statement (.div0u) := join_FFFF 0x0#4 0x0#4 0x1#4 0x9#4
theorem dmulsL (m) (n) : Statement (.dmulsL m n) := join_F00F 0x3#4 n m 0xD#4
theorem dmuluL (m) (n) : Statement (.dmuluL m n) := join_F00F 0x3#4 n m 0x5#4
theorem dt (n) : Statement (.dt n) := join_F0FF 0x4#4 n 0x1#4 0x0#4
theorem extsB (m) (n) : Statement (.extsB m n) := join_F00F 0x6#4 n m 0xE#4
theorem extsW (m) (n) : Statement (.extsW m n) := join_F00F 0x6#4 n m 0xF#4
theorem extuB (m) (n) : Statement (.extuB m n) := join_F00F 0x6#4 n m 0xC#4
theorem extuW (m) (n) : Statement (.extuW m n) := join_F00F 0x6#4 n m 0xD#4
theorem macL (m) (n) : Statement (.macL m n) := join_F00F 0x0#4 n m 0xF#4
theorem macW (m) (n) : Statement (.macW m n) := join_F00F 0x4#4 n m 0xF#4
theorem mulL (m) (n) : Statement (.mulL m n) := join_F00F 0x0#4 n m 0x7#4
theorem mulsW (m) (n) : Statement (.mulsW m n) := join_F00F 0x2#4 n m 0xF#4
theorem muluW (m) (n) : Statement (.muluW m n) := join_F00F 0x2#4 n m 0xE#4
theorem neg (m) (n) : Statement (.neg m n) := join_F00F 0x6#4 n m 0xB#4
theorem negc (m) (n) : Statement (.negc m n) := join_F00F 0x6#4 n m 0xA#4
theorem sub (m) (n) : Statement (.sub m n) := join_F00F 0x3#4 n m 0x8#4
theorem subc (m) (n) : Statement (.subc m n) := join_F00F 0x3#4 n m 0xA#4
theorem subv (m) (n) : Statement (.subv m n) := join_F00F 0x3#4 n m 0xB#4
theorem and (m) (n) : Statement (.and m n) := join_F00F 0x2#4 n m 0x9#4
theorem andImm (imm) : Statement (.andImm imm) := joinByte_FF00 0xC#4 0x9#4 imm
theorem andB (imm) : Statement (.andB imm) := joinByte_FF00 0xC#4 0xD#4 imm
theorem not (m) (n) : Statement (.not m n) := join_F00F 0x6#4 n m 0x7#4
theorem or (m) (n) : Statement (.or m n) := join_F00F 0x2#4 n m 0xB#4
theorem orImm (imm) : Statement (.orImm imm) := joinByte_FF00 0xC#4 0xB#4 imm
theorem orB (imm) : Statement (.orB imm) := joinByte_FF00 0xC#4 0xF#4 imm
theorem tasB (n) : Statement (.tasB n) := join_F0FF 0x4#4 n 0x1#4 0xB#4
theorem tst (m) (n) : Statement (.tst m n) := join_F00F 0x2#4 n m 0x8#4
theorem tstImm (imm) : Statement (.tstImm imm) := joinByte_FF00 0xC#4 0x8#4 imm
theorem tstB (imm) : Statement (.tstB imm) := joinByte_FF00 0xC#4 0xC#4 imm
theorem xor (m) (n) : Statement (.xor m n) := join_F00F 0x2#4 n m 0xA#4
theorem xorImm (imm) : Statement (.xorImm imm) := joinByte_FF00 0xC#4 0xA#4 imm
theorem xorB (imm) : Statement (.xorB imm) := joinByte_FF00 0xC#4 0xE#4 imm
theorem rotl (n) : Statement (.rotl n) := join_F0FF 0x4#4 n 0x0#4 0x4#4
theorem rotr (n) : Statement (.rotr n) := join_F0FF 0x4#4 n 0x0#4 0x5#4
theorem rotcl (n) : Statement (.rotcl n) := join_F0FF 0x4#4 n 0x2#4 0x4#4
theorem rotcr (n) : Statement (.rotcr n) := join_F0FF 0x4#4 n 0x2#4 0x5#4
theorem shad (m) (n) : Statement (.shad m n) := join_F00F 0x4#4 n m 0xC#4
theorem shal (n) : Statement (.shal n) := join_F0FF 0x4#4 n 0x2#4 0x0#4
theorem shar (n) : Statement (.shar n) := join_F0FF 0x4#4 n 0x2#4 0x1#4
theorem shld (m) (n) : Statement (.shld m n) := join_F00F 0x4#4 n m 0xD#4
theorem shll (n) : Statement (.shll n) := join_F0FF 0x4#4 n 0x0#4 0x0#4
theorem shlr (n) : Statement (.shlr n) := join_F0FF 0x4#4 n 0x0#4 0x1#4
theorem shll2 (n) : Statement (.shll2 n) := join_F0FF 0x4#4 n 0x0#4 0x8#4
theorem shlr2 (n) : Statement (.shlr2 n) := join_F0FF 0x4#4 n 0x0#4 0x9#4
theorem shll8 (n) : Statement (.shll8 n) := join_F0FF 0x4#4 n 0x1#4 0x8#4
theorem shlr8 (n) : Statement (.shlr8 n) := join_F0FF 0x4#4 n 0x1#4 0x9#4
theorem shll16 (n) : Statement (.shll16 n) := join_F0FF 0x4#4 n 0x2#4 0x8#4
theorem shlr16 (n) : Statement (.shlr16 n) := join_F0FF 0x4#4 n 0x2#4 0x9#4
theorem bf (disp) : Statement (.bf disp) := joinByte_FF00 0x8#4 0xB#4 disp
theorem bfS (disp) : Statement (.bfS disp) := joinByte_FF00 0x8#4 0xF#4 disp
theorem bt (disp) : Statement (.bt disp) := joinByte_FF00 0x8#4 0x9#4 disp
theorem btS (disp) : Statement (.btS disp) := joinByte_FF00 0x8#4 0xD#4 disp
theorem bra (disp) : Statement (.bra disp) := joinDisp12_F000 0xA#4 disp
theorem braf (n) : Statement (.braf n) := join_F0FF 0x0#4 n 0x2#4 0x3#4
theorem bsr (disp) : Statement (.bsr disp) := joinDisp12_F000 0xB#4 disp
theorem bsrf (n) : Statement (.bsrf n) := join_F0FF 0x0#4 n 0x0#4 0x3#4
theorem jmp (n) : Statement (.jmp n) := join_F0FF 0x4#4 n 0x2#4 0xB#4
theorem jsr (n) : Statement (.jsr n) := join_F0FF 0x4#4 n 0x0#4 0xB#4
theorem rts : Statement (.rts) := join_FFFF 0x0#4 0x0#4 0x0#4 0xB#4
theorem clrmac : Statement (.clrmac) := join_FFFF 0x0#4 0x0#4 0x2#4 0x8#4
theorem clrs : Statement (.clrs) := join_FFFF 0x0#4 0x0#4 0x4#4 0x8#4
theorem clrt : Statement (.clrt) := join_FFFF 0x0#4 0x0#4 0x0#4 0x8#4
theorem ldcSr (m) : Statement (.ldcSr m) := join_F0FF 0x4#4 m 0x0#4 0xE#4
theorem ldcGbr (m) : Statement (.ldcGbr m) := join_F0FF 0x4#4 m 0x1#4 0xE#4
theorem ldcVbr (m) : Statement (.ldcVbr m) := join_F0FF 0x4#4 m 0x2#4 0xE#4
theorem ldcSsr (m) : Statement (.ldcSsr m) := join_F0FF 0x4#4 m 0x3#4 0xE#4
theorem ldcSpc (m) : Statement (.ldcSpc m) := join_F0FF 0x4#4 m 0x4#4 0xE#4
theorem ldcR0Bank (m) : Statement (.ldcR0Bank m) := join_F0FF 0x4#4 m 0x8#4 0xE#4
theorem ldcR1Bank (m) : Statement (.ldcR1Bank m) := join_F0FF 0x4#4 m 0x9#4 0xE#4
theorem ldcR2Bank (m) : Statement (.ldcR2Bank m) := join_F0FF 0x4#4 m 0xA#4 0xE#4
theorem ldcR3Bank (m) : Statement (.ldcR3Bank m) := join_F0FF 0x4#4 m 0xB#4 0xE#4
theorem ldcR4Bank (m) : Statement (.ldcR4Bank m) := join_F0FF 0x4#4 m 0xC#4 0xE#4
theorem ldcR5Bank (m) : Statement (.ldcR5Bank m) := join_F0FF 0x4#4 m 0xD#4 0xE#4
theorem ldcR6Bank (m) : Statement (.ldcR6Bank m) := join_F0FF 0x4#4 m 0xE#4 0xE#4
theorem ldcR7Bank (m) : Statement (.ldcR7Bank m) := join_F0FF 0x4#4 m 0xF#4 0xE#4
theorem ldcLSr (m) : Statement (.ldcLSr m) := join_F0FF 0x4#4 m 0x0#4 0x7#4
theorem ldcLGbr (m) : Statement (.ldcLGbr m) := join_F0FF 0x4#4 m 0x1#4 0x7#4
theorem ldcLVbr (m) : Statement (.ldcLVbr m) := join_F0FF 0x4#4 m 0x2#4 0x7#4
theorem ldcLSsr (m) : Statement (.ldcLSsr m) := join_F0FF 0x4#4 m 0x3#4 0x7#4
theorem ldcLSpc (m) : Statement (.ldcLSpc m) := join_F0FF 0x4#4 m 0x4#4 0x7#4
theorem ldcLR0Bank (m) : Statement (.ldcLR0Bank m) := join_F0FF 0x4#4 m 0x8#4 0x7#4
theorem ldcLR1Bank (m) : Statement (.ldcLR1Bank m) := join_F0FF 0x4#4 m 0x9#4 0x7#4
theorem ldcLR2Bank (m) : Statement (.ldcLR2Bank m) := join_F0FF 0x4#4 m 0xA#4 0x7#4
theorem ldcLR3Bank (m) : Statement (.ldcLR3Bank m) := join_F0FF 0x4#4 m 0xB#4 0x7#4
theorem ldcLR4Bank (m) : Statement (.ldcLR4Bank m) := join_F0FF 0x4#4 m 0xC#4 0x7#4
theorem ldcLR5Bank (m) : Statement (.ldcLR5Bank m) := join_F0FF 0x4#4 m 0xD#4 0x7#4
theorem ldcLR6Bank (m) : Statement (.ldcLR6Bank m) := join_F0FF 0x4#4 m 0xE#4 0x7#4
theorem ldcLR7Bank (m) : Statement (.ldcLR7Bank m) := join_F0FF 0x4#4 m 0xF#4 0x7#4
theorem ldsMach (m) : Statement (.ldsMach m) := join_F0FF 0x4#4 m 0x0#4 0xA#4
theorem ldsMacl (m) : Statement (.ldsMacl m) := join_F0FF 0x4#4 m 0x1#4 0xA#4
theorem ldsPr (m) : Statement (.ldsPr m) := join_F0FF 0x4#4 m 0x2#4 0xA#4
theorem ldsLMach (m) : Statement (.ldsLMach m) := join_F0FF 0x4#4 m 0x0#4 0x6#4
theorem ldsLMacl (m) : Statement (.ldsLMacl m) := join_F0FF 0x4#4 m 0x1#4 0x6#4
theorem ldsLPr (m) : Statement (.ldsLPr m) := join_F0FF 0x4#4 m 0x2#4 0x6#4
theorem nop : Statement (.nop) := join_FFFF 0x0#4 0x0#4 0x0#4 0x9#4
theorem rte : Statement (.rte) := join_FFFF 0x0#4 0x0#4 0x2#4 0xB#4
theorem sets : Statement (.sets) := join_FFFF 0x0#4 0x0#4 0x5#4 0x8#4
theorem ldtlb : Statement (.ldtlb) := join_FFFF 0x0#4 0x0#4 0x3#4 0x8#4
theorem sett : Statement (.sett) := join_FFFF 0x0#4 0x0#4 0x1#4 0x8#4
theorem sleep : Statement (.sleep) := join_FFFF 0x0#4 0x0#4 0x1#4 0xB#4
theorem stcSr (n) : Statement (.stcSr n) := join_F0FF 0x0#4 n 0x0#4 0x2#4
theorem stcGbr (n) : Statement (.stcGbr n) := join_F0FF 0x0#4 n 0x1#4 0x2#4
theorem stcVbr (n) : Statement (.stcVbr n) := join_F0FF 0x0#4 n 0x2#4 0x2#4
theorem stcSsr (n) : Statement (.stcSsr n) := join_F0FF 0x0#4 n 0x3#4 0x2#4
theorem stcSpc (n) : Statement (.stcSpc n) := join_F0FF 0x0#4 n 0x4#4 0x2#4
theorem stcR0Bank (n) : Statement (.stcR0Bank n) := join_F0FF 0x0#4 n 0x8#4 0x2#4
theorem stcR1Bank (n) : Statement (.stcR1Bank n) := join_F0FF 0x0#4 n 0x9#4 0x2#4
theorem stcR2Bank (n) : Statement (.stcR2Bank n) := join_F0FF 0x0#4 n 0xA#4 0x2#4
theorem stcR3Bank (n) : Statement (.stcR3Bank n) := join_F0FF 0x0#4 n 0xB#4 0x2#4
theorem stcR4Bank (n) : Statement (.stcR4Bank n) := join_F0FF 0x0#4 n 0xC#4 0x2#4
theorem stcR5Bank (n) : Statement (.stcR5Bank n) := join_F0FF 0x0#4 n 0xD#4 0x2#4
theorem stcR6Bank (n) : Statement (.stcR6Bank n) := join_F0FF 0x0#4 n 0xE#4 0x2#4
theorem stcR7Bank (n) : Statement (.stcR7Bank n) := join_F0FF 0x0#4 n 0xF#4 0x2#4
theorem stcLSr (n) : Statement (.stcLSr n) := join_F0FF 0x4#4 n 0x0#4 0x3#4
theorem stcLGbr (n) : Statement (.stcLGbr n) := join_F0FF 0x4#4 n 0x1#4 0x3#4
theorem stcLVbr (n) : Statement (.stcLVbr n) := join_F0FF 0x4#4 n 0x2#4 0x3#4
theorem stcLSsr (n) : Statement (.stcLSsr n) := join_F0FF 0x4#4 n 0x3#4 0x3#4
theorem stcLSpc (n) : Statement (.stcLSpc n) := join_F0FF 0x4#4 n 0x4#4 0x3#4
theorem stcLR0Bank (n) : Statement (.stcLR0Bank n) := join_F0FF 0x4#4 n 0x8#4 0x3#4
theorem stcLR1Bank (n) : Statement (.stcLR1Bank n) := join_F0FF 0x4#4 n 0x9#4 0x3#4
theorem stcLR2Bank (n) : Statement (.stcLR2Bank n) := join_F0FF 0x4#4 n 0xA#4 0x3#4
theorem stcLR3Bank (n) : Statement (.stcLR3Bank n) := join_F0FF 0x4#4 n 0xB#4 0x3#4
theorem stcLR4Bank (n) : Statement (.stcLR4Bank n) := join_F0FF 0x4#4 n 0xC#4 0x3#4
theorem stcLR5Bank (n) : Statement (.stcLR5Bank n) := join_F0FF 0x4#4 n 0xD#4 0x3#4
theorem stcLR6Bank (n) : Statement (.stcLR6Bank n) := join_F0FF 0x4#4 n 0xE#4 0x3#4
theorem stcLR7Bank (n) : Statement (.stcLR7Bank n) := join_F0FF 0x4#4 n 0xF#4 0x3#4
theorem stsMach (n) : Statement (.stsMach n) := join_F0FF 0x0#4 n 0x0#4 0xA#4
theorem stsMacl (n) : Statement (.stsMacl n) := join_F0FF 0x0#4 n 0x1#4 0xA#4
theorem stsPr (n) : Statement (.stsPr n) := join_F0FF 0x0#4 n 0x2#4 0xA#4
theorem stsLMach (n) : Statement (.stsLMach n) := join_F0FF 0x4#4 n 0x0#4 0x2#4
theorem stsLMacl (n) : Statement (.stsLMacl n) := join_F0FF 0x4#4 n 0x1#4 0x2#4
theorem stsLPr (n) : Statement (.stsLPr n) := join_F0FF 0x4#4 n 0x2#4 0x2#4
theorem trapa (imm) : Statement (.trapa imm) := joinByte_FF00 0xC#4 0x3#4 imm

end FixedBits

end Sys2Proof.Laws
end

