-- ==== Sys2Proof/Tests/Slice0.lean ====
section
/-! SUPPORT. The model's own tests. Every expected result is the spec's: the patterns of 30_encoding.md R123, and the
examples E<n>, vectors V<n> and programs P<n> of 95_test_vectors.md, or a rule, named in each docstring. At the end stands,
for every statement with hypotheses, a witness that something meets them. -/

namespace Sys2Proof.Tests

open Sys2Proof Sys2Proof.Machine

/-! ### Decoding: one word of every constructor, written out bit by bit -/

/-- Data transfer, 30_encoding.md R123. -/
theorem test_decode_dataTransfer1 :
    decode 0b1110001110000000#16 = .ok (.movImm 0x80#8 0x3#4) ∧
    decode 0b1001111110000001#16 = .ok (.movWLoadPc 0x81#8 0xF#4) ∧
    decode 0b1101011000101101#16 = .ok (.movLLoadPc 0x2D#8 0x6#4) ∧
    decode 0b0110101101010011#16 = .ok (.mov 0x5#4 0xB#4) ∧
    decode 0b0010001111000000#16 = .ok (.movBStore 0xC#4 0x3#4) ∧
    decode 0b0010111110010001#16 = .ok (.movWStore 0x9#4 0xF#4) ∧
    decode 0b0010011011100010#16 = .ok (.movLStore 0xE#4 0x6#4) ∧
    decode 0b0110101101010000#16 = .ok (.movBLoad 0x5#4 0xB#4) ∧
    decode 0b0110001111000001#16 = .ok (.movWLoad 0xC#4 0x3#4) ∧
    decode 0b0110111110010010#16 = .ok (.movLLoad 0x9#4 0xF#4) ∧
    decode 0b0010011011100100#16 = .ok (.movBPreDec 0xE#4 0x6#4) ∧
    decode 0b0010101101010101#16 = .ok (.movWPreDec 0x5#4 0xB#4) ∧
    decode 0b0010001111000110#16 = .ok (.movLPreDec 0xC#4 0x3#4) ∧
    decode 0b0110111110010100#16 = .ok (.movBPostInc 0x9#4 0xF#4) ∧
    decode 0b0110011011100101#16 = .ok (.movWPostInc 0xE#4 0x6#4) ∧
    decode 0b0110101101010110#16 = .ok (.movLPostInc 0x5#4 0xB#4) ∧
    decode 0b1000000000111110#16 = .ok (.movBStoreDisp 0xE#4 0x3#4) ∧
    decode 0b1000000111110110#16 = .ok (.movWStoreDisp 0x6#4 0xF#4) ∧
    decode 0b0001011011101011#16 = .ok (.movLStoreDisp 0xE#4 0xB#4 0x6#4) ∧
    decode 0b1000010001011001#16 = .ok (.movBLoadDisp 0x9#4 0x5#4) := by decide

/-- Data transfer, 30_encoding.md R123. -/
theorem test_decode_dataTransfer2 :
    decode 0b1000010111001110#16 = .ok (.movWLoadDisp 0xE#4 0xC#4) ∧
    decode 0b0101111110010110#16 = .ok (.movLLoadDisp 0x6#4 0x9#4 0xF#4) ∧
    decode 0b0000011011100100#16 = .ok (.movBStoreIdx 0xE#4 0x6#4) ∧
    decode 0b0000101101010101#16 = .ok (.movWStoreIdx 0x5#4 0xB#4) ∧
    decode 0b0000001111000110#16 = .ok (.movLStoreIdx 0xC#4 0x3#4) ∧
    decode 0b0000111110011100#16 = .ok (.movBLoadIdx 0x9#4 0xF#4) ∧
    decode 0b0000011011101101#16 = .ok (.movWLoadIdx 0xE#4 0x6#4) ∧
    decode 0b0000101101011110#16 = .ok (.movLLoadIdx 0x5#4 0xB#4) ∧
    decode 0b1100000001111110#16 = .ok (.movBStoreGbr 0x7E#8) ∧
    decode 0b1100000110000001#16 = .ok (.movWStoreGbr 0x81#8) ∧
    decode 0b1100001000101101#16 = .ok (.movLStoreGbr 0x2D#8) ∧
    decode 0b1100010011000011#16 = .ok (.movBLoadGbr 0xC3#8) ∧
    decode 0b1100010101111110#16 = .ok (.movWLoadGbr 0x7E#8) ∧
    decode 0b1100011010000001#16 = .ok (.movLLoadGbr 0x81#8) ∧
    decode 0b1100011100101101#16 = .ok (.mova 0x2D#8) ∧
    decode 0b0000101100101001#16 = .ok (.movt 0xB#4) ∧
    decode 0b0000001110000011#16 = .ok (.pref 0x3#4) ∧
    decode 0b0110111110011000#16 = .ok (.swapB 0x9#4 0xF#4) ∧
    decode 0b0110011011101001#16 = .ok (.swapW 0xE#4 0x6#4) ∧
    decode 0b0010101101011101#16 = .ok (.xtrct 0x5#4 0xB#4) := by decide

/-- Arithmetic, 30_encoding.md R123. -/
theorem test_decode_arithmetic1 :
    decode 0b0011001111001100#16 = .ok (.add 0xC#4 0x3#4) ∧
    decode 0b0111111101011110#16 = .ok (.addImm 0x5E#8 0xF#4) ∧
    decode 0b0011011011101110#16 = .ok (.addc 0xE#4 0x6#4) ∧
    decode 0b0011101101011111#16 = .ok (.addv 0x5#4 0xB#4) ∧
    decode 0b1000100010000000#16 = .ok (.cmpEqImm 0x80#8) ∧
    decode 0b0011111110010000#16 = .ok (.cmpEq 0x9#4 0xF#4) ∧
    decode 0b0011011011100010#16 = .ok (.cmpHs 0xE#4 0x6#4) ∧
    decode 0b0011101101010011#16 = .ok (.cmpGe 0x5#4 0xB#4) ∧
    decode 0b0011001111000110#16 = .ok (.cmpHi 0xC#4 0x3#4) ∧
    decode 0b0011111110010111#16 = .ok (.cmpGt 0x9#4 0xF#4) ∧
    decode 0b0100011000010001#16 = .ok (.cmpPz 0x6#4) ∧
    decode 0b0100101100010101#16 = .ok (.cmpPl 0xB#4) ∧
    decode 0b0010001111001100#16 = .ok (.cmpStr 0xC#4 0x3#4) ∧
    decode 0b0011111110010100#16 = .ok (.div1 0x9#4 0xF#4) ∧
    decode 0b0010011011100111#16 = .ok (.div0s 0xE#4 0x6#4) ∧
    decode 0b0000000000011001#16 = .ok .div0u ∧
    decode 0b0011001111001101#16 = .ok (.dmulsL 0xC#4 0x3#4) ∧
    decode 0b0011111110010101#16 = .ok (.dmuluL 0x9#4 0xF#4) ∧
    decode 0b0100011000010000#16 = .ok (.dt 0x6#4) ∧
    decode 0b0110101101011110#16 = .ok (.extsB 0x5#4 0xB#4) := by decide

/-- Arithmetic, 30_encoding.md R123. -/
theorem test_decode_arithmetic2 :
    decode 0b0110001111001111#16 = .ok (.extsW 0xC#4 0x3#4) ∧
    decode 0b0110111110011100#16 = .ok (.extuB 0x9#4 0xF#4) ∧
    decode 0b0110011011101101#16 = .ok (.extuW 0xE#4 0x6#4) ∧
    decode 0b0000101101011111#16 = .ok (.macL 0x5#4 0xB#4) ∧
    decode 0b0100001111001111#16 = .ok (.macW 0xC#4 0x3#4) ∧
    decode 0b0000111110010111#16 = .ok (.mulL 0x9#4 0xF#4) ∧
    decode 0b0010011011101111#16 = .ok (.mulsW 0xE#4 0x6#4) ∧
    decode 0b0010101101011110#16 = .ok (.muluW 0x5#4 0xB#4) ∧
    decode 0b0110001111001011#16 = .ok (.neg 0xC#4 0x3#4) ∧
    decode 0b0110111110011010#16 = .ok (.negc 0x9#4 0xF#4) ∧
    decode 0b0011011011101000#16 = .ok (.sub 0xE#4 0x6#4) ∧
    decode 0b0011101101011010#16 = .ok (.subc 0x5#4 0xB#4) ∧
    decode 0b0011001111001011#16 = .ok (.subv 0xC#4 0x3#4) := by decide

/-- Logic, 30_encoding.md R123. -/
theorem test_decode_logic :
    decode 0b0010111110011001#16 = .ok (.and 0x9#4 0xF#4) ∧
    decode 0b1100100111110001#16 = .ok (.andImm 0xF1#8) ∧
    decode 0b1100110110100111#16 = .ok (.andB 0xA7#8) ∧
    decode 0b0110001111000111#16 = .ok (.not 0xC#4 0x3#4) ∧
    decode 0b0010111110011011#16 = .ok (.or 0x9#4 0xF#4) ∧
    decode 0b1100101111110001#16 = .ok (.orImm 0xF1#8) ∧
    decode 0b1100111110100111#16 = .ok (.orB 0xA7#8) ∧
    decode 0b0100001100011011#16 = .ok (.tasB 0x3#4) ∧
    decode 0b0010111110011000#16 = .ok (.tst 0x9#4 0xF#4) ∧
    decode 0b1100100011110001#16 = .ok (.tstImm 0xF1#8) ∧
    decode 0b1100110010100111#16 = .ok (.tstB 0xA7#8) ∧
    decode 0b0010001111001010#16 = .ok (.xor 0xC#4 0x3#4) ∧
    decode 0b1100101001011110#16 = .ok (.xorImm 0x5E#8) ∧
    decode 0b1100111011110001#16 = .ok (.xorB 0xF1#8) := by decide

/-- Shift, 30_encoding.md R123. -/
theorem test_decode_shift :
    decode 0b0100101100000100#16 = .ok (.rotl 0xB#4) ∧
    decode 0b0100001100000101#16 = .ok (.rotr 0x3#4) ∧
    decode 0b0100111100100100#16 = .ok (.rotcl 0xF#4) ∧
    decode 0b0100011000100101#16 = .ok (.rotcr 0x6#4) ∧
    decode 0b0100101101011100#16 = .ok (.shad 0x5#4 0xB#4) ∧
    decode 0b0100001100100000#16 = .ok (.shal 0x3#4) ∧
    decode 0b0100111100100001#16 = .ok (.shar 0xF#4) ∧
    decode 0b0100011011101101#16 = .ok (.shld 0xE#4 0x6#4) ∧
    decode 0b0100101100000000#16 = .ok (.shll 0xB#4) ∧
    decode 0b0100001100000001#16 = .ok (.shlr 0x3#4) ∧
    decode 0b0100111100001000#16 = .ok (.shll2 0xF#4) ∧
    decode 0b0100011000001001#16 = .ok (.shlr2 0x6#4) ∧
    decode 0b0100101100011000#16 = .ok (.shll8 0xB#4) ∧
    decode 0b0100001100011001#16 = .ok (.shlr8 0x3#4) ∧
    decode 0b0100111100101000#16 = .ok (.shll16 0xF#4) ∧
    decode 0b0100011000101001#16 = .ok (.shlr16 0x6#4) := by decide

/-- Branch, 30_encoding.md R123. -/
theorem test_decode_branch :
    decode 0b1000101111000011#16 = .ok (.bf 0xC3#8) ∧
    decode 0b1000111101111110#16 = .ok (.bfS 0x7E#8) ∧
    decode 0b1000100110000001#16 = .ok (.bt 0x81#8) ∧
    decode 0b1000110100101101#16 = .ok (.btS 0x2D#8) ∧
    decode 0b1010100110100101#16 = .ok (.bra 0x9A5#12) ∧
    decode 0b0000001100100011#16 = .ok (.braf 0x3#4) ∧
    decode 0b1011100110100101#16 = .ok (.bsr 0x9A5#12) ∧
    decode 0b0000011000000011#16 = .ok (.bsrf 0x6#4) ∧
    decode 0b0100101100101011#16 = .ok (.jmp 0xB#4) ∧
    decode 0b0100001100001011#16 = .ok (.jsr 0x3#4) ∧
    decode 0b0000000000001011#16 = .ok .rts := by decide

/-- System control, 30_encoding.md R123. -/
theorem test_decode_systemControl1 :
    decode 0b0000000000101000#16 = .ok .clrmac ∧
    decode 0b0000000001001000#16 = .ok .clrs ∧
    decode 0b0000000000001000#16 = .ok .clrt ∧
    decode 0b0100100100001110#16 = .ok (.ldcSr 0x9#4) ∧
    decode 0b0100111000011110#16 = .ok (.ldcGbr 0xE#4) ∧
    decode 0b0100010100101110#16 = .ok (.ldcVbr 0x5#4) ∧
    decode 0b0100110000111110#16 = .ok (.ldcSsr 0xC#4) ∧
    decode 0b0100100101001110#16 = .ok (.ldcSpc 0x9#4) ∧
    decode 0b0100111010001110#16 = .ok (.ldcR0Bank 0xE#4) ∧
    decode 0b0100010110011110#16 = .ok (.ldcR1Bank 0x5#4) ∧
    decode 0b0100110010101110#16 = .ok (.ldcR2Bank 0xC#4) ∧
    decode 0b0100100110111110#16 = .ok (.ldcR3Bank 0x9#4) ∧
    decode 0b0100111011001110#16 = .ok (.ldcR4Bank 0xE#4) ∧
    decode 0b0100010111011110#16 = .ok (.ldcR5Bank 0x5#4) ∧
    decode 0b0100110011101110#16 = .ok (.ldcR6Bank 0xC#4) ∧
    decode 0b0100100111111110#16 = .ok (.ldcR7Bank 0x9#4) ∧
    decode 0b0100111000000111#16 = .ok (.ldcLSr 0xE#4) ∧
    decode 0b0100010100010111#16 = .ok (.ldcLGbr 0x5#4) ∧
    decode 0b0100110000100111#16 = .ok (.ldcLVbr 0xC#4) ∧
    decode 0b0100100100110111#16 = .ok (.ldcLSsr 0x9#4) := by decide

/-- System control, 30_encoding.md R123. -/
theorem test_decode_systemControl2 :
    decode 0b0100111001000111#16 = .ok (.ldcLSpc 0xE#4) ∧
    decode 0b0100010110000111#16 = .ok (.ldcLR0Bank 0x5#4) ∧
    decode 0b0100110010010111#16 = .ok (.ldcLR1Bank 0xC#4) ∧
    decode 0b0100100110100111#16 = .ok (.ldcLR2Bank 0x9#4) ∧
    decode 0b0100111010110111#16 = .ok (.ldcLR3Bank 0xE#4) ∧
    decode 0b0100010111000111#16 = .ok (.ldcLR4Bank 0x5#4) ∧
    decode 0b0100110011010111#16 = .ok (.ldcLR5Bank 0xC#4) ∧
    decode 0b0100100111100111#16 = .ok (.ldcLR6Bank 0x9#4) ∧
    decode 0b0100111011110111#16 = .ok (.ldcLR7Bank 0xE#4) ∧
    decode 0b0100010100001010#16 = .ok (.ldsMach 0x5#4) ∧
    decode 0b0100110000011010#16 = .ok (.ldsMacl 0xC#4) ∧
    decode 0b0100100100101010#16 = .ok (.ldsPr 0x9#4) ∧
    decode 0b0100111000000110#16 = .ok (.ldsLMach 0xE#4) ∧
    decode 0b0100010100010110#16 = .ok (.ldsLMacl 0x5#4) ∧
    decode 0b0100110000100110#16 = .ok (.ldsLPr 0xC#4) ∧
    decode 0b0000000000001001#16 = .ok .nop ∧
    decode 0b0000000000101011#16 = .ok .rte ∧
    decode 0b0000000001011000#16 = .ok .sets ∧
    decode 0b0000000000111000#16 = .ok .ldtlb ∧
    decode 0b0000000000011000#16 = .ok .sett := by decide

/-- System control, 30_encoding.md R123. -/
theorem test_decode_systemControl3 :
    decode 0b0000000000011011#16 = .ok .sleep ∧
    decode 0b0000101100000010#16 = .ok (.stcSr 0xB#4) ∧
    decode 0b0000001100010010#16 = .ok (.stcGbr 0x3#4) ∧
    decode 0b0000111100100010#16 = .ok (.stcVbr 0xF#4) ∧
    decode 0b0000011000110010#16 = .ok (.stcSsr 0x6#4) ∧
    decode 0b0000101101000010#16 = .ok (.stcSpc 0xB#4) ∧
    decode 0b0000001110000010#16 = .ok (.stcR0Bank 0x3#4) ∧
    decode 0b0000111110010010#16 = .ok (.stcR1Bank 0xF#4) ∧
    decode 0b0000011010100010#16 = .ok (.stcR2Bank 0x6#4) ∧
    decode 0b0000101110110010#16 = .ok (.stcR3Bank 0xB#4) ∧
    decode 0b0000001111000010#16 = .ok (.stcR4Bank 0x3#4) ∧
    decode 0b0000111111010010#16 = .ok (.stcR5Bank 0xF#4) ∧
    decode 0b0000011011100010#16 = .ok (.stcR6Bank 0x6#4) ∧
    decode 0b0000101111110010#16 = .ok (.stcR7Bank 0xB#4) ∧
    decode 0b0100001100000011#16 = .ok (.stcLSr 0x3#4) ∧
    decode 0b0100111100010011#16 = .ok (.stcLGbr 0xF#4) ∧
    decode 0b0100011000100011#16 = .ok (.stcLVbr 0x6#4) ∧
    decode 0b0100101100110011#16 = .ok (.stcLSsr 0xB#4) ∧
    decode 0b0100001101000011#16 = .ok (.stcLSpc 0x3#4) ∧
    decode 0b0100111110000011#16 = .ok (.stcLR0Bank 0xF#4) := by decide

/-- System control, 30_encoding.md R123. -/
theorem test_decode_systemControl4 :
    decode 0b0100011010010011#16 = .ok (.stcLR1Bank 0x6#4) ∧
    decode 0b0100101110100011#16 = .ok (.stcLR2Bank 0xB#4) ∧
    decode 0b0100001110110011#16 = .ok (.stcLR3Bank 0x3#4) ∧
    decode 0b0100111111000011#16 = .ok (.stcLR4Bank 0xF#4) ∧
    decode 0b0100011011010011#16 = .ok (.stcLR5Bank 0x6#4) ∧
    decode 0b0100101111100011#16 = .ok (.stcLR6Bank 0xB#4) ∧
    decode 0b0100001111110011#16 = .ok (.stcLR7Bank 0x3#4) ∧
    decode 0b0000111100001010#16 = .ok (.stsMach 0xF#4) ∧
    decode 0b0000011000011010#16 = .ok (.stsMacl 0x6#4) ∧
    decode 0b0000101100101010#16 = .ok (.stsPr 0xB#4) ∧
    decode 0b0100001100000010#16 = .ok (.stsLMach 0x3#4) ∧
    decode 0b0100111100010010#16 = .ok (.stsLMacl 0xF#4) ∧
    decode 0b0100011000100010#16 = .ok (.stsLPr 0x6#4) ∧
    decode 0b1100001110100111#16 = .ok (.trapa 0xA7#8) := by decide

/-- The second form of the decoder's result, R124: words with no pattern are rejected by name. -/
theorem test_decode_rejects :
    decode 0xFFFD#16 = .error (.undefinedCode 0xFFFD#16) ∧ decode 0x0000#16 = .error (.undefinedCode 0#16) ∧
      decodeBytes true [0x0C#8, 0x31#8, 0x09#8] = .ok (.add 0#4 1#4, [0x09#8]) ∧
      decodeBytes false [0x31#8] = .error .tooShort := by decide

/-- The table's form of a word: E1. -/
theorem test_decodeTableWord : decodeTableWord 16 0x310C = some (.add 0#4 1#4) := by decide

/-- The first instruction after reset runs (log entry 8): E51. -/
theorem test_withFetchWord :
    (match step (State.reset.withFetchWord 16 0x0058) with
      | .next t => some (t.satS, t.pc)
      | _ => none) = some (true, 0xA0000002#32) := by decide

/-! ### Placement checks: an ill-formed sequence for each check, refused -/

/-- R303: a branch in the slot of a branch. -/
theorem test_slotsLegal_refuses :
    Code.slotsLegal [.bra 0#12, .bt 0#8] = false ∧ Code.wellFormed [.nop, .jsr 1#4, .trapa 1#8] = false ∧
      Code.slotsLegal [.bfS 0#8, .bra 0#12] = true := by decide

/-- R301: LDS to PR in the slot of RTS. -/
theorem test_prRestoredInTime_refuses :
    Code.prRestoredInTime [.rts, .ldsLPr 15#4] = false ∧ Code.wellFormed [.rts, .ldsPr 1#4] = false ∧
      Code.prRestoredInTime [.ldsLPr 15#4, .rts, .nop] = true := by decide

/-- R94: LDTLB directly before RTE. -/
theorem test_tlbLoadedInTime_refuses :
    Code.tlbLoadedInTime [.ldtlb, .rte, .nop] = false ∧ Code.wellFormed [.ldtlb, .rte] = false ∧
      Code.wellFormed [.ldtlb, .nop, .rte, .nop] = true := by decide

/-! ### One step of an instruction -/

/-- A state with the given SR and registers, at H'1000, with VBR = H'8C000000 and otherwise as after reset. -/
def start (sr : Word) (regs : List (RegNum × Word)) : State :=
  regs.foldl (fun s p => s.setReg p.1 p.2) { State.reset with sr := sr, pc := 0x1000#32, vbr := 0x8C000000#32 }

/-- A state with a register of bank 0 replaced. -/
def poke0 (s : State) (j : Fin 8) (v : Word) : State := { s with gpr := s.gpr.write (.bank0 j) v }

/-- A state with a register of bank 1 replaced. -/
def poke1 (s : State) (j : Fin 8) (v : Word) : State := { s with gpr := s.gpr.write (.bank1 j) v }

/-- What is seen after an instruction. -/
def after {α : Type} (i : Instr) (s : State) (f : State → α) : Option α :=
  match exec i s with
  | .next t => some (f t)
  | _ => none

/-- What is seen after one step of the machine with a word placed at pc. -/
def afterStep {α : Type} (w : Half) (s : State) (f : State → α) : Option α :=
  match step (s.memWrite s.pc .word (w.setWidth 32)) with
  | .next t => some (f t)
  | _ => none

/-- vector, V2: MOV #H'80,R1. -/
theorem test_movImm :
    after (.movImm 0x80#8 0x1#4)
      (start 0x40000000#32 [(1#4, 0x0#32)])
      (fun t => t.reg 1#4) =
      some (0xFFFFFF80#32) := by decide

/-- vector, V3: MOV R15,R0. -/
theorem test_mov :
    after (.mov 0xF#4 0x0#4)
      (start 0x40000000#32 [(15#4, 0xDEADBEEF#32), (0#4, 0x0#32)])
      (fun t => t.reg 0#4) =
      some (0xDEADBEEF#32) := by decide

/-- vector, V8: MOV.B R1,@R2. -/
theorem test_movBStore :
    after (.movBStore 0x1#4 0x2#4)
      (start 0x40000000#32 [(1#4, 0x11223344#32), (2#4, 0x3003#32)])
      (fun t => t.memRead 0x3003#32 .byte) =
      some (0x44#32) := by decide

/-- vector, V7: MOV.W R1,@R2. -/
theorem test_movWStore :
    after (.movWStore 0x1#4 0x2#4)
      { start 0x40000000#32 [(1#4, 0x11223344#32), (2#4, 0x3002#32)] with littleEndian := true }
      (fun t => (t.memRead 0x3002#32 .byte, t.memRead 0x3003#32 .byte)) =
      some (0x44#32, 0x33#32) := by decide

/-- vector, V5: MOV.L R1,@R2. -/
theorem test_movLStore :
    after (.movLStore 0x1#4 0x2#4)
      { start 0x40000000#32 [(1#4, 0x11223344#32), (2#4, 0x3000#32)] with littleEndian := true }
      (fun t => (t.memRead 0x3000#32 .byte, t.memRead 0x3001#32 .byte, t.memRead 0x3002#32 .byte, t.memRead 0x3003#32 .byte)) =
      some (0x44#32, 0x33#32, 0x22#32, 0x11#32) := by decide

/-- example, E28: MOV.B @R0,R1. -/
theorem test_movBLoad :
    after (.movBLoad 0x0#4 0x1#4)
      ((start 0x40000000#32 [(0#4, 0x3000#32)]).memWrite 0x3000#32 .byte 0x80#32)
      (fun t => t.reg 1#4) =
      some (0xFFFFFF80#32) := by decide

/-- vector, V10: MOV.W @R2,R1. -/
theorem test_movWLoad :
    after (.movWLoad 0x2#4 0x1#4)
      ((start 0x40000000#32 [(2#4, 0x3000#32)]).memWrite 0x3000#32 .word 0x7FFF#32)
      (fun t => t.reg 1#4) =
      some (0x7FFF#32) := by decide

/-- vector, V16: MOV.B R0,@-R1. -/
theorem test_movBPreDec :
    after (.movBPreDec 0x0#4 0x1#4)
      (start 0x40000000#32 [(0#4, 0xAB#32), (1#4, 0x3001#32)])
      (fun t => (t.reg 1#4, t.memRead 0x3000#32 .byte)) =
      some (0x3000#32, 0xAB#32) := by decide

/-- example, E29: MOV.W R0,@-R1. -/
theorem test_movWPreDec :
    after (.movWPreDec 0x0#4 0x1#4)
      (start 0x40000000#32 [(0#4, 0xAAAAAAAA#32), (1#4, 0xFFFF7F80#32)])
      (fun t => (t.reg 1#4, t.memRead 0xFFFF7F7E#32 .word)) =
      some (0xFFFF7F7E#32, 0xAAAA#32) := by decide

/-- vector, V15: MOV.L R15,@-R15. -/
theorem test_movLPreDec :
    after (.movLPreDec 0xF#4 0xF#4)
      (start 0x40000000#32 [(15#4, 0x4000#32)])
      (fun t => (t.reg 15#4, t.memRead 0x3FFC#32 .long)) =
      some (0x3FFC#32, 0x4000#32) := by decide

/-- vector, V14: MOV.B @R2+,R1. -/
theorem test_movBPostInc :
    after (.movBPostInc 0x2#4 0x1#4)
      ((start 0x40000000#32 [(2#4, 0x3000#32)]).memWrite 0x3000#32 .byte 0x1#32)
      (fun t => (t.reg 1#4, t.reg 2#4)) =
      some (0x1#32, 0x3001#32) := by decide

/-- vector, V13: MOV.W @R2+,R1. -/
theorem test_movWPostInc :
    after (.movWPostInc 0x2#4 0x1#4)
      ((start 0x40000000#32 [(2#4, 0x3000#32)]).memWrite 0x3000#32 .word 0x8001#32)
      (fun t => (t.reg 1#4, t.reg 2#4)) =
      some (0xFFFF8001#32, 0x3002#32) := by decide

/-- vector, V12: MOV.L @R2+,R2. -/
theorem test_movLPostInc :
    after (.movLPostInc 0x2#4 0x2#4)
      ((start 0x40000000#32 [(2#4, 0x3000#32)]).memWrite 0x3000#32 .long 0x12345678#32)
      (fun t => t.reg 2#4) =
      some (0x12345678#32) := by decide

/-- vector, V17: MOV.B R0,@(15,R1). -/
theorem test_movBStoreDisp :
    after (.movBStoreDisp 0xF#4 0x1#4)
      (start 0x40000000#32 [(0#4, 0x5A#32), (1#4, 0x3000#32)])
      (fun t => t.memRead 0x300F#32 .byte) =
      some (0x5A#32) := by decide

/-- vector, V18: MOV.W R0,@(15,R1). -/
theorem test_movWStoreDisp :
    after (.movWStoreDisp 0xF#4 0x1#4)
      (start 0x40000000#32 [(0#4, 0xBEEF#32), (1#4, 0x3000#32)])
      (fun t => t.memRead 0x301E#32 .word) =
      some (0xBEEF#32) := by decide

/-- vector, V19: MOV.L R2,@(15,R1). -/
theorem test_movLStoreDisp :
    after (.movLStoreDisp 0x2#4 0xF#4 0x1#4)
      (start 0x40000000#32 [(2#4, 0xCAFEBABE#32), (1#4, 0x3000#32)])
      (fun t => t.memRead 0x303C#32 .long) =
      some (0xCAFEBABE#32) := by decide

/-- vector, V20: MOV.B @(3,R1),R0. -/
theorem test_movBLoadDisp :
    after (.movBLoadDisp 0x3#4 0x1#4)
      ((start 0x40000000#32 [(1#4, 0x3000#32)]).memWrite 0x3003#32 .byte 0x80#32)
      (fun t => t.reg 0#4) =
      some (0xFFFFFF80#32) := by decide

/-- vector, V21: MOV.W @(1,R1),R0. -/
theorem test_movWLoadDisp :
    after (.movWLoadDisp 0x1#4 0x1#4)
      ((start 0x40000000#32 [(1#4, 0x3000#32)]).memWrite 0x3002#32 .word 0x1234#32)
      (fun t => t.reg 0#4) =
      some (0x1234#32) := by decide

/-- vector, V22: MOV.L @(1,R1),R5. -/
theorem test_movLLoadDisp :
    after (.movLLoadDisp 0x1#4 0x1#4 0x5#4)
      ((start 0x40000000#32 [(1#4, 0x3000#32)]).memWrite 0x3004#32 .long 0x89ABCDEF#32)
      (fun t => t.reg 5#4) =
      some (0x89ABCDEF#32) := by decide

/-- example, E31: MOV.B R1,@(R0,R2). -/
theorem test_movBStoreIdx :
    after (.movBStoreIdx 0x1#4 0x2#4)
      (start 0x40000000#32 [(2#4, 0x4#32), (0#4, 0x10000000#32), (1#4, 0x1234565A#32)])
      (fun t => t.memRead 0x10000004#32 .byte) =
      some (0x5A#32) := by decide

/-- example, E32: MOV.W @(R0,R2),R1. -/
theorem test_movWLoadIdx :
    after (.movWLoadIdx 0x2#4 0x1#4)
      ((start 0x40000000#32 [(2#4, 0x4#32), (0#4, 0x10000000#32)]).memWrite 0x10000004#32 .word 0x8001#32)
      (fun t => t.reg 1#4) =
      some (0xFFFF8001#32) := by decide

/-- vector, V23: MOV.L @(R0,R1),R2. -/
theorem test_movLLoadIdx :
    after (.movLLoadIdx 0x1#4 0x2#4)
      ((start 0x40000000#32 [(0#4, 0xFFFFFFFF#32), (1#4, 0x3005#32)]).memWrite 0x3004#32 .long 0xBADCAFE#32)
      (fun t => t.reg 2#4) =
      some (0xBADCAFE#32) := by decide

/-- example, E34: MOV.B R0,@(1,GBR). -/
theorem test_movBStoreGbr :
    after (.movBStoreGbr 0x1#8)
      { start 0x40000000#32 [(0#4, 0xFFFF7F80#32)] with gbr := 0x2000#32 }
      (fun t => t.memRead 0x2001#32 .byte) =
      some (0x80#32) := by decide

/-- vector, V26: MOV.L R0,@(255,GBR). -/
theorem test_movLStoreGbr :
    after (.movLStoreGbr 0xFF#8)
      { start 0x40000000#32 [(0#4, 0x1020304#32)] with gbr := 0x2000#32 }
      (fun t => t.memRead 0x23FC#32 .long) =
      some (0x1020304#32) := by decide

/-- vector, V27: MOV.B @(0,GBR),R0. -/
theorem test_movBLoadGbr :
    after (.movBLoadGbr 0x0#8)
      ({ start 0x40000000#32 [] with gbr := 0x2001#32 }.memWrite 0x2001#32 .byte 0x7F#32)
      (fun t => t.reg 0#4) =
      some (0x7F#32) := by decide

/-- vector, V25: MOV.W @(255,GBR),R0. -/
theorem test_movWLoadGbr :
    after (.movWLoadGbr 0xFF#8)
      ({ start 0x40000000#32 [] with gbr := 0x2000#32 }.memWrite 0x21FE#32 .word 0xFFFE#32)
      (fun t => t.reg 0#4) =
      some (0xFFFFFFFE#32) := by decide

/-- example, E33: MOV.L @(2,GBR),R0. -/
theorem test_movLLoadGbr :
    after (.movLLoadGbr 0x2#8)
      ({ start 0x40000000#32 [] with gbr := 0x2000#32 }.memWrite 0x2008#32 .long 0x11223344#32)
      (fun t => t.reg 0#4) =
      some (0x11223344#32) := by decide

/-- vector, V31: MOVA @(255,PC),R0. -/
theorem test_mova :
    after (.mova 0xFF#8)
      (start 0x40000000#32 [])
      (fun t => t.reg 0#4) =
      some (0x1400#32) := by decide

/-- vector, V32: MOVT R3. -/
theorem test_movt :
    after (.movt 0x3#4)
      (start 0x40000001#32 [(3#4, 0xFFFFFFFF#32)])
      (fun t => t.reg 3#4) =
      some (0x1#32) := by decide

/-- vector, V37: PREF @R1. -/
theorem test_pref :
    after (.pref 0x1#4)
      (start 0x40000000#32 [(1#4, 0x3001#32)])
      (fun t => (t.reg 1#4, t.pc)) =
      some (0x3001#32, 0x1002#32) := by decide

/-- vector, V33: SWAP.B R1,R1. -/
theorem test_swapB :
    after (.swapB 0x1#4 0x1#4)
      (start 0x40000000#32 [(1#4, 0xAABBCCDD#32)])
      (fun t => t.reg 1#4) =
      some (0xAABBDDCC#32) := by decide

/-- vector, V34: SWAP.W R1,R1. -/
theorem test_swapW :
    after (.swapW 0x1#4 0x1#4)
      (start 0x40000000#32 [(1#4, 0xAABBCCDD#32)])
      (fun t => t.reg 1#4) =
      some (0xCCDDAABB#32) := by decide

/-- example, E82: XTRCT R0,R1. -/
theorem test_xtrct :
    after (.xtrct 0x0#4 0x1#4)
      (start 0x40000000#32 [(0#4, 0x1234567#32), (1#4, 0x89ABCDEF#32)])
      (fun t => t.reg 1#4) =
      some (0x456789AB#32) := by decide

/-- vector, V41: ADD R1,R1. -/
theorem test_add :
    after (.add 0x1#4 0x1#4)
      (start 0x40000000#32 [(1#4, 0x80000000#32)])
      (fun t => (t.reg 1#4, t.t)) =
      some (0x0#32, false) := by decide

/-- vector, V42: ADD #-1,R0. -/
theorem test_addImm :
    after (.addImm 0xFF#8 0x0#4)
      (start 0x40000001#32 [(0#4, 0x0#32)])
      (fun t => (t.reg 0#4, t.t)) =
      some (0xFFFFFFFF#32, true) := by decide

/-- vector, V43: ADDC R1,R2. -/
theorem test_addc :
    after (.addc 0x1#4 0x2#4)
      (start 0x40000001#32 [(1#4, 0xFFFFFFFF#32), (2#4, 0xFFFFFFFF#32)])
      (fun t => (t.reg 2#4, t.t)) =
      some (0xFFFFFFFF#32, true) := by decide

/-- vector, V46: ADDV R1,R2. -/
theorem test_addv :
    after (.addv 0x1#4 0x2#4)
      (start 0x40000000#32 [(1#4, 0x80000000#32), (2#4, 0x80000000#32)])
      (fun t => (t.reg 2#4, t.t)) =
      some (0x0#32, true) := by decide

/-- vector, V48: CMP/EQ #H'FF,R0. -/
theorem test_cmpEqImm :
    after (.cmpEqImm 0xFF#8)
      (start 0x40000000#32 [(0#4, 0xFFFFFFFF#32)])
      (fun t => t.t) =
      some (true) := by decide

/-- vector, V50: CMP/EQ R1,R2. -/
theorem test_cmpEq :
    after (.cmpEq 0x1#4 0x2#4)
      (start 0x40000000#32 [(1#4, 0x5#32), (2#4, 0x5#32)])
      (fun t => t.t) =
      some (true) := by decide

/-- vector, V51: CMP/HS R1,R2. -/
theorem test_cmpHs :
    after (.cmpHs 0x1#4 0x2#4)
      (start 0x40000000#32 [(1#4, 0x5#32), (2#4, 0x5#32)])
      (fun t => t.t) =
      some (true) := by decide

/-- vector, V53: CMP/GE R1,R2. -/
theorem test_cmpGe :
    after (.cmpGe 0x1#4 0x2#4)
      (start 0x40000001#32 [(1#4, 0x1#32), (2#4, 0xFFFFFFFF#32)])
      (fun t => t.t) =
      some (false) := by decide

/-- vector, V52: CMP/HI R1,R2. -/
theorem test_cmpHi :
    after (.cmpHi 0x1#4 0x2#4)
      (start 0x40000001#32 [(1#4, 0x5#32), (2#4, 0x5#32)])
      (fun t => t.t) =
      some (false) := by decide

/-- vector, V55: CMP/GT R1,R2. -/
theorem test_cmpGt :
    after (.cmpGt 0x1#4 0x2#4)
      (start 0x40000000#32 [(1#4, 0x80000000#32), (2#4, 0x7FFFFFFF#32)])
      (fun t => t.t) =
      some (true) := by decide

/-- vector, V56: CMP/PZ R1. -/
theorem test_cmpPz :
    after (.cmpPz 0x1#4)
      (start 0x40000000#32 [(1#4, 0x0#32)])
      (fun t => t.t) =
      some (true) := by decide

/-- vector, V57: CMP/PL R1. -/
theorem test_cmpPl :
    after (.cmpPl 0x1#4)
      (start 0x40000001#32 [(1#4, 0x0#32)])
      (fun t => t.t) =
      some (false) := by decide

/-- vector, V59: CMP/STR R1,R2. -/
theorem test_cmpStr :
    after (.cmpStr 0x1#4 0x2#4)
      (start 0x40000001#32 [(1#4, 0x11223344#32), (2#4, 0x22334411#32)])
      (fun t => t.t) =
      some (false) := by decide

/-- vector, V64: DIV1 R0,R1. -/
theorem test_div1 :
    after (.div1 0x0#4 0x1#4)
      (start 0x40000000#32 [(1#4, 0x12345#32), (0#4, 0x1230000#32)])
      (fun t => (t.reg 1#4, t.q, t.m, t.t)) =
      some (0xFEDF468A#32, true, false, false) := by decide

/-- vector, V62: DIV0S R1,R2. -/
theorem test_div0s :
    after (.div0s 0x1#4 0x2#4)
      (start 0x40000100#32 [(1#4, 0x80000000#32), (2#4, 0x1#32)])
      (fun t => (t.q, t.m, t.t)) =
      some (false, true, true) := by decide

/-- vector, V63: DIV0U. -/
theorem test_div0u :
    after .div0u
      (start 0x700003F3#32 [])
      (fun t => t.sr) =
      some (0x700000F2#32) := by decide

/-- vector, V67: DMULS.L R1,R2. -/
theorem test_dmulsL :
    after (.dmulsL 0x1#4 0x2#4)
      (start 0x40000000#32 [(1#4, 0x80000000#32), (2#4, 0x80000000#32)])
      (fun t => (t.mach, t.macl)) =
      some (0x40000000#32, 0x0#32) := by decide

/-- vector, V69: DMULU.L R1,R2. -/
theorem test_dmuluL :
    after (.dmuluL 0x1#4 0x2#4)
      (start 0x40000000#32 [(1#4, 0xFFFFFFFF#32), (2#4, 0xFFFFFFFF#32)])
      (fun t => (t.mach, t.macl)) =
      some (0xFFFFFFFE#32, 0x1#32) := by decide

/-- vector, V70: DT R1. -/
theorem test_dt :
    after (.dt 0x1#4)
      (start 0x40000000#32 [(1#4, 0x1#32)])
      (fun t => (t.reg 1#4, t.t)) =
      some (0x0#32, true) := by decide

/-- vector, V72: EXTS.B R1,R1. -/
theorem test_extsB :
    after (.extsB 0x1#4 0x1#4)
      (start 0x40000000#32 [(1#4, 0x1234567F#32)])
      (fun t => t.reg 1#4) =
      some (0x7F#32) := by decide

/-- example, E19: EXTS.W R0,R1. -/
theorem test_extsW :
    after (.extsW 0x0#4 0x1#4)
      (start 0x40000000#32 [(0#4, 0x8000#32)])
      (fun t => t.reg 1#4) =
      some (0xFFFF8000#32) := by decide

/-- example, E20: EXTU.B R0,R1. -/
theorem test_extuB :
    after (.extuB 0x0#4 0x1#4)
      (start 0x40000000#32 [(0#4, 0xFFFFFF80#32)])
      (fun t => t.reg 1#4) =
      some (0x80#32) := by decide

/-- vector, V73: EXTU.W R1,R2. -/
theorem test_extuW :
    after (.extuW 0x1#4 0x2#4)
      (start 0x40000000#32 [(1#4, 0x12348765#32)])
      (fun t => t.reg 2#4) =
      some (0x8765#32) := by decide

/-- vector, V86: MAC.L @R1+,@R2+. -/
theorem test_macL :
    after (.macL 0x1#4 0x2#4)
      (({ start 0x40000000#32 [(1#4, 0x3000#32), (2#4, 0x3004#32)] with mach := 0x7FFFFFFF#32, macl := 0xFFFFFFFF#32 }.memWrite 0x3000#32 .long 0x1#32).memWrite 0x3004#32 .long 0x1#32)
      (fun t => (t.mach, t.macl, t.reg 1#4, t.reg 2#4)) =
      some (0x80000000#32, 0x0#32, 0x3004#32, 0x3008#32) := by decide

/-- vector, V90: MAC.W @R1+,@R2+. -/
theorem test_macW :
    after (.macW 0x1#4 0x2#4)
      (({ start 0x40000002#32 [(1#4, 0x3000#32), (2#4, 0x3002#32)] with mach := 0x0#32, macl := 0x7FFFFFFF#32 }.memWrite 0x3000#32 .word 0x1#32).memWrite 0x3002#32 .word 0x1#32)
      (fun t => (t.mach, t.macl, t.reg 1#4, t.reg 2#4)) =
      some (0x1#32, 0x7FFFFFFF#32, 0x3002#32, 0x3004#32) := by decide

/-- vector, V74: MUL.L R1,R2. -/
theorem test_mulL :
    after (.mulL 0x1#4 0x2#4)
      { start 0x40000000#32 [(1#4, 0x10000#32), (2#4, 0x10000#32)] with macl := 0x5#32, mach := 0x9#32 }
      (fun t => (t.macl, t.mach)) =
      some (0x0#32, 0x9#32) := by decide

/-- vector, V75: MULS.W R1,R2. -/
theorem test_mulsW :
    after (.mulsW 0x1#4 0x2#4)
      (start 0x40000000#32 [(1#4, 0xABCD8000#32), (2#4, 0x12348000#32)])
      (fun t => t.macl) =
      some (0x40000000#32) := by decide

/-- vector, V76: MULU.W R1,R2. -/
theorem test_muluW :
    after (.muluW 0x1#4 0x2#4)
      (start 0x40000000#32 [(1#4, 0xABCDFFFF#32), (2#4, 0x1234FFFF#32)])
      (fun t => t.macl) =
      some (0xFFFE0001#32) := by decide

/-- vector, V77: NEG R1,R1. -/
theorem test_neg :
    after (.neg 0x1#4 0x1#4)
      (start 0x40000000#32 [(1#4, 0x80000000#32)])
      (fun t => t.reg 1#4) =
      some (0x80000000#32) := by decide

/-- vector, V78: NEGC R1,R2. -/
theorem test_negc :
    after (.negc 0x1#4 0x2#4)
      (start 0x40000000#32 [(1#4, 0x0#32)])
      (fun t => (t.reg 2#4, t.t)) =
      some (0x0#32, false) := by decide

/-- vector, V80: SUB R1,R1. -/
theorem test_sub :
    after (.sub 0x1#4 0x1#4)
      (start 0x40000000#32 [(1#4, 0x12345678#32)])
      (fun t => t.reg 1#4) =
      some (0x0#32) := by decide

/-- vector, V81: SUBC R1,R1. -/
theorem test_subc :
    after (.subc 0x1#4 0x1#4)
      (start 0x40000001#32 [(1#4, 0x12345678#32)])
      (fun t => (t.reg 1#4, t.t)) =
      some (0xFFFFFFFF#32, true) := by decide

/-- vector, V83: SUBV R1,R2. -/
theorem test_subv :
    after (.subv 0x1#4 0x2#4)
      (start 0x40000000#32 [(1#4, 0x1#32), (2#4, 0x80000000#32)])
      (fun t => (t.reg 2#4, t.t)) =
      some (0x7FFFFFFF#32, true) := by decide

/-- example, E8: AND R0,R1. -/
theorem test_and :
    after (.and 0x0#4 0x1#4)
      (start 0x40000000#32 [(0#4, 0xAAAAAAAA#32), (1#4, 0x55555555#32)])
      (fun t => t.reg 1#4) =
      some (0x0#32) := by decide

/-- vector, V95: AND #H'FF,R0. -/
theorem test_andImm :
    after (.andImm 0xFF#8)
      (start 0x40000000#32 [(0#4, 0x12345678#32)])
      (fun t => t.reg 0#4) =
      some (0x78#32) := by decide

/-- vector, V103: AND.B #H'0F,@(R0,GBR). -/
theorem test_andB :
    after (.andB 0xF#8)
      ({ start 0x40000000#32 [(0#4, 0xFFFFFFFF#32)] with gbr := 0x2011#32 }.memWrite 0x2010#32 .byte 0xFF#32)
      (fun t => t.memRead 0x2010#32 .byte) =
      some (0xF#32) := by decide

/-- vector, V101: NOT R1,R1. -/
theorem test_not :
    after (.not 0x1#4 0x1#4)
      (start 0x40000000#32 [(1#4, 0x0#32)])
      (fun t => (t.reg 1#4, t.t)) =
      some (0xFFFFFFFF#32, false) := by decide

/-- example, E44: OR R0,R1. -/
theorem test_or :
    after (.or 0x0#4 0x1#4)
      (start 0x40000000#32 [(0#4, 0xAAAA5555#32), (1#4, 0x55550000#32)])
      (fun t => t.reg 1#4) =
      some (0xFFFF5555#32) := by decide

/-- vector, V96: OR #H'FF,R0. -/
theorem test_orImm :
    after (.orImm 0xFF#8)
      (start 0x40000000#32 [(0#4, 0x12345600#32)])
      (fun t => t.reg 0#4) =
      some (0x123456FF#32) := by decide

/-- vector, V104: OR.B #H'01,@(R0,GBR). -/
theorem test_orB :
    after (.orB 0x1#8)
      ((({ start 0x40000000#32 [(0#4, 0x1#32)] with gbr := 0x2000#32 }.memWrite 0x2000#32 .byte 0x11#32).memWrite 0x2001#32 .byte 0x80#32).memWrite 0x2002#32 .byte 0x22#32)
      (fun t => (t.memRead 0x2000#32 .byte, t.memRead 0x2001#32 .byte, t.memRead 0x2002#32 .byte)) =
      some (0x11#32, 0x81#32, 0x22#32) := by decide

/-- vector, V107: TAS.B @R1. -/
theorem test_tasB :
    after (.tasB 0x1#4)
      ((start 0x40000001#32 [(1#4, 0x3001#32)]).memWrite 0x3001#32 .byte 0x1#32)
      (fun t => (t.t, t.memRead 0x3001#32 .byte)) =
      some (false, 0x81#32) := by decide

/-- vector, V99: TST R1,R2. -/
theorem test_tst :
    after (.tst 0x1#4 0x2#4)
      (start 0x40000000#32 [(1#4, 0xF0F0F0F0#32), (2#4, 0xF0F0F0F#32)])
      (fun t => (t.t, t.reg 2#4)) =
      some (true, 0xF0F0F0F#32) := by decide

/-- vector, V98: TST #H'FF,R0. -/
theorem test_tstImm :
    after (.tstImm 0xFF#8)
      (start 0x40000000#32 [(0#4, 0xFFFFFF00#32)])
      (fun t => (t.t, t.reg 0#4)) =
      some (true, 0xFFFFFF00#32) := by decide

/-- vector, V106: TST.B #H'01,@(R0,GBR). -/
theorem test_tstB :
    after (.tstB 0x1#8)
      ({ start 0x40000000#32 [(0#4, 0x0#32)] with gbr := 0x2000#32 }.memWrite 0x2000#32 .byte 0xFE#32)
      (fun t => (t.t, t.memRead 0x2000#32 .byte)) =
      some (true, 0xFE#32) := by decide

/-- vector, V102: XOR R1,R1. -/
theorem test_xor :
    after (.xor 0x1#4 0x1#4)
      (start 0x40000000#32 [(1#4, 0x12345678#32)])
      (fun t => t.reg 1#4) =
      some (0x0#32) := by decide

/-- vector, V97: XOR #H'FF,R0. -/
theorem test_xorImm :
    after (.xorImm 0xFF#8)
      (start 0x40000000#32 [(0#4, 0x123456FF#32)])
      (fun t => t.reg 0#4) =
      some (0x12345600#32) := by decide

/-- vector, V105: XOR.B #H'FF,@(R0,GBR). -/
theorem test_xorB :
    after (.xorB 0xFF#8)
      ({ start 0x40000000#32 [(0#4, 0x0#32)] with gbr := 0x2000#32 }.memWrite 0x2000#32 .byte 0x5A#32)
      (fun t => t.memRead 0x2000#32 .byte) =
      some (0xA5#32) := by decide

/-- vector, V125: ROTL R1. -/
theorem test_rotl :
    after (.rotl 0x1#4)
      (start 0x40000001#32 [(1#4, 0x7FFFFFFF#32)])
      (fun t => (t.reg 1#4, t.t)) =
      some (0xFFFFFFFE#32, false) := by decide

/-- vector, V126: ROTR R1. -/
theorem test_rotr :
    after (.rotr 0x1#4)
      (start 0x40000001#32 [(1#4, 0xFFFFFFFE#32)])
      (fun t => (t.reg 1#4, t.t)) =
      some (0x7FFFFFFF#32, false) := by decide

/-- vector, V127: ROTCL R1. -/
theorem test_rotcl :
    after (.rotcl 0x1#4)
      (start 0x40000001#32 [(1#4, 0x7FFFFFFF#32)])
      (fun t => (t.reg 1#4, t.t)) =
      some (0xFFFFFFFF#32, false) := by decide

/-- vector, V128: ROTCR R1. -/
theorem test_rotcr :
    after (.rotcr 0x1#4)
      (start 0x40000000#32 [(1#4, 0xFFFFFFFE#32)])
      (fun t => (t.reg 1#4, t.t)) =
      some (0x7FFFFFFF#32, false) := by decide

/-- vector, V110: SHAD R3,R4. -/
theorem test_shad :
    after (.shad 0x3#4 0x4#4)
      (start 0x40000000#32 [(3#4, 0x14#32), (4#4, 0xFFFFF801#32)])
      (fun t => (t.reg 4#4, t.t)) =
      some (0x80100000#32, false) := by decide

/-- vector, V121: SHAL R1. -/
theorem test_shal :
    after (.shal 0x1#4)
      (start 0x40000001#32 [(1#4, 0x40000000#32)])
      (fun t => (t.reg 1#4, t.t)) =
      some (0x80000000#32, false) := by decide

/-- vector, V122: SHAR R1. -/
theorem test_shar :
    after (.shar 0x1#4)
      (start 0x40000000#32 [(1#4, 0xFFFFFFFF#32)])
      (fun t => (t.reg 1#4, t.t)) =
      some (0xFFFFFFFF#32, true) := by decide

/-- vector, V117: SHLD R3,R4. -/
theorem test_shld :
    after (.shld 0x3#4 0x4#4)
      (start 0x40000000#32 [(3#4, 0xFFFFFFE0#32), (4#4, 0x80000000#32)])
      (fun t => t.reg 4#4) =
      some (0x0#32) := by decide

/-- example, E57: SHLL R0. -/
theorem test_shll :
    after (.shll 0x0#4)
      (start 0x40000000#32 [(0#4, 0x80000001#32)])
      (fun t => (t.reg 0#4, t.t)) =
      some (0x2#32, true) := by decide

/-- vector, V124: SHLR R1. -/
theorem test_shlr :
    after (.shlr 0x1#4)
      (start 0x40000000#32 [(1#4, 0xFFFFFFFF#32)])
      (fun t => (t.reg 1#4, t.t)) =
      some (0x7FFFFFFF#32, true) := by decide

/-- vector, V129: SHLL2 R1. -/
theorem test_shll2 :
    after (.shll2 0x1#4)
      (start 0x40000000#32 [(1#4, 0xFFFFFFFF#32)])
      (fun t => (t.reg 1#4, t.t)) =
      some (0xFFFFFFFC#32, false) := by decide

/-- vector, V130: SHLR2 R1. -/
theorem test_shlr2 :
    after (.shlr2 0x1#4)
      (start 0x40000001#32 [(1#4, 0xFFFFFFFF#32)])
      (fun t => (t.reg 1#4, t.t)) =
      some (0x3FFFFFFF#32, true) := by decide

/-- vector, V131: SHLL8 R1. -/
theorem test_shll8 :
    after (.shll8 0x1#4)
      (start 0x40000000#32 [(1#4, 0xFFFFFFFF#32)])
      (fun t => t.reg 1#4) =
      some (0xFFFFFF00#32) := by decide

/-- vector, V132: SHLR8 R1. -/
theorem test_shlr8 :
    after (.shlr8 0x1#4)
      (start 0x40000000#32 [(1#4, 0xFFFFFFFF#32)])
      (fun t => t.reg 1#4) =
      some (0xFFFFFF#32) := by decide

/-- vector, V133: SHLL16 R1. -/
theorem test_shll16 :
    after (.shll16 0x1#4)
      (start 0x40000000#32 [(1#4, 0xFFFFFFFF#32)])
      (fun t => t.reg 1#4) =
      some (0xFFFF0000#32) := by decide

/-- vector, V134: SHLR16 R1. -/
theorem test_shlr16 :
    after (.shlr16 0x1#4)
      (start 0x40000000#32 [(1#4, 0xFFFFFFFF#32)])
      (fun t => t.reg 1#4) =
      some (0xFFFF#32) := by decide

/-- vector, V137: BF H'0F04. -/
theorem test_bf :
    after (.bf 0x80#8)
      (start 0x40000000#32 [])
      (fun t => t.pc) =
      some (0xF04#32) := by decide

/-- vector, V135: BT H'1084. -/
theorem test_bt :
    after (.bt 0x40#8)
      (start 0x40000000#32 [])
      (fun t => t.pc) =
      some (0x1002#32) := by decide

/-- vector, V176: CLRMAC. -/
theorem test_clrmac :
    after .clrmac
      { start 0x40000000#32 [] with mach := 0xFFFFFFFF#32, macl := 0xFFFFFFFF#32 }
      (fun t => (t.mach, t.macl)) =
      some (0x0#32, 0x0#32) := by decide

/-- example, E11: CLRS. -/
theorem test_clrs :
    after .clrs
      (start 0x40000002#32 [])
      (fun t => t.satS) =
      some (false) := by decide

/-- example, E12: CLRT. -/
theorem test_clrt :
    after .clrt
      (start 0x40000001#32 [])
      (fun t => t.t) =
      some (false) := by decide

/-- vector, V157: LDC R1,SR. -/
theorem test_ldcSr :
    after (.ldcSr 0x1#4)
      (start 0x40000000#32 [(1#4, 0x8FFFFC0C#32)])
      (fun t => t.sr) =
      some (0x0#32) := by decide

/-- vector, V160: LDC R1,GBR. -/
theorem test_ldcGbr :
    after (.ldcGbr 0x1#4)
      (start 0x0#32 [(1#4, 0x1234#32)])
      (fun t => (t.gbr, t.pc)) =
      some (0x1234#32, 0x1002#32) := by decide

/-- vector, V162: LDC R1,VBR. -/
theorem test_ldcVbr :
    after (.ldcVbr 0x1#4)
      (start 0x40000000#32 [(1#4, 0x8C000001#32)])
      (fun t => t.vbr) =
      some (0x8C000001#32) := by decide

/-- vector, V163: LDC R1,SSR. -/
theorem test_ldcSsr :
    after (.ldcSsr 0x1#4)
      (start 0x40000000#32 [(1#4, 0xFFFFFFFF#32)])
      (fun t => t.ssr) =
      some (0x700003F3#32) := by decide

/-- vector, V164: LDC R1,SPC. -/
theorem test_ldcSpc :
    after (.ldcSpc 0x1#4)
      (start 0x40000000#32 [(1#4, 0x12345679#32)])
      (fun t => t.spc) =
      some (0x12345679#32) := by decide

/-- vector, V166: LDC R1,R7_BANK. -/
theorem test_ldcR7Bank :
    after (.ldcR7Bank 0x1#4)
      (poke0 (poke1 (start 0x60000000#32 []) 1 0xBB#32) 7 0x0#32)
      (fun t => t.gpr.read (.bank0 7)) =
      some (0xBB#32) := by decide

/-- vector, V168: LDC.L @R1+,SR. -/
theorem test_ldcLSr :
    after (.ldcLSr 0x1#4)
      ((poke1 (start 0x40000000#32 [(1#4, 0x3000#32)]) 1 0x99#32).memWrite 0x3000#32 .long 0x700000F0#32)
      (fun t => (t.sr, t.gpr.read (.bank0 1), t.gpr.read (.bank1 1))) =
      some (0x700000F0#32, 0x3004#32, 0x99#32) := by decide

/-- example, E23: LDC.L @R15+,GBR. -/
theorem test_ldcLGbr :
    after (.ldcLGbr 0xF#4)
      ({ start 0x40000000#32 [(15#4, 0x10000000#32)] with gbr := 0x0#32 }.memWrite 0x10000000#32 .long 0xCAFE0001#32)
      (fun t => (t.reg 15#4, t.gbr)) =
      some (0x10000004#32, 0xCAFE0001#32) := by decide

/-- vector, V169: LDC.L @R1+,VBR. -/
theorem test_ldcLVbr :
    after (.ldcLVbr 0x1#4)
      ((start 0x40000000#32 [(1#4, 0x3000#32)]).memWrite 0x3000#32 .long 0x8C000000#32)
      (fun t => (t.vbr, t.reg 1#4)) =
      some (0x8C000000#32, 0x3004#32) := by decide

/-- vector, V172: LDS R1,MACH. -/
theorem test_ldsMach :
    after (.ldsMach 0x1#4)
      (start 0x40000000#32 [(1#4, 0xFFFFFFFF#32)])
      (fun t => t.mach) =
      some (0xFFFFFFFF#32) := by decide

/-- example, E24: LDS R0,PR. -/
theorem test_ldsPr :
    after (.ldsPr 0x0#4)
      { start 0x40000000#32 [(0#4, 0x12345678#32)] with pr := 0x0#32 }
      (fun t => t.pr) =
      some (0x12345678#32) := by decide

/-- example, E25: LDS.L @R15+,MACL. -/
theorem test_ldsLMacl :
    after (.ldsLMacl 0xF#4)
      ({ start 0x40000000#32 [(15#4, 0x10000000#32)] with macl := 0x0#32 }.memWrite 0x10000000#32 .long 0xBADF00D#32)
      (fun t => (t.reg 15#4, t.macl)) =
      some (0x10000004#32, 0xBADF00D#32) := by decide

/-- vector, V174: LDS.L @R15+,PR. -/
theorem test_ldsLPr :
    after (.ldsLPr 0xF#4)
      ((start 0x40000000#32 [(15#4, 0x3FFC#32)]).memWrite 0x3FFC#32 .long 0x1238#32)
      (fun t => (t.pr, t.reg 15#4)) =
      some (0x1238#32, 0x4000#32) := by decide

/-- vector, V179: NOP. -/
theorem test_nop :
    after .nop
      (start 0x400003F3#32 [])
      (fun t => (t.sr, t.pc)) =
      some (0x400003F3#32, 0x1002#32) := by decide

/-- vector, V177: SETS. -/
theorem test_sets :
    after .sets
      (start 0x40000000#32 [])
      (fun t => t.sr) =
      some (0x40000002#32) := by decide

/-- vector, V188: LDTLB. -/
theorem test_ldtlb :
    after .ldtlb
      { start 0x0#32 [] with vbr := 0x0#32 }
      (fun t => (t.expevt, t.pc)) =
      some (0x180#12, 0x100#32) := by decide

/-- vector, V178: SETT. -/
theorem test_sett :
    after .sett
      (start 0x40000000#32 [])
      (fun t => t.sr) =
      some (0x40000001#32) := by decide

/-- vector, V180: SLEEP. -/
theorem test_sleep :
    after .sleep
      (start 0x40000000#32 [])
      (fun t => (t.mode, t.pc)) =
      some (Mode.sleeping, 0x1002#32) := by decide

/-- vector, V159: STC SR,R1. -/
theorem test_stcSr :
    after (.stcSr 0x1#4)
      (poke1 (start 0x600003F3#32 []) 1 0x0#32)
      (fun t => t.reg 1#4) =
      some (0x600003F3#32) := by decide

/-- vector, V161: STC GBR,R1. -/
theorem test_stcGbr :
    after (.stcGbr 0x1#4)
      { start 0x0#32 [] with gbr := 0x4321#32 }
      (fun t => t.reg 1#4) =
      some (0x4321#32) := by decide

/-- vector, V167: STC R3_BANK,R2. -/
theorem test_stcR3Bank :
    after (.stcR3Bank 0x2#4)
      (poke1 (start 0x40000000#32 []) 3 0xCC#32)
      (fun t => t.reg 2#4) =
      some (0xCC#32) := by decide

/-- vector, V170: STC.L SR,@-R15. -/
theorem test_stcLSr :
    after (.stcLSr 0xF#4)
      (start 0x400000F1#32 [(15#4, 0x4000#32)])
      (fun t => (t.reg 15#4, t.memRead 0x3FFC#32 .long)) =
      some (0x3FFC#32, 0x400000F1#32) := by decide

/-- example, E66: STC.L GBR,@-R15. -/
theorem test_stcLGbr :
    after (.stcLGbr 0xF#4)
      { start 0x40000000#32 [(15#4, 0x10000004#32)] with gbr := 0xABCD#32 }
      (fun t => (t.reg 15#4, t.memRead 0x10000000#32 .long)) =
      some (0x10000000#32, 0xABCD#32) := by decide

/-- vector, V185: STC.L SSR,@-R15. -/
theorem test_stcLSsr :
    after (.stcLSsr 0xF#4)
      { start 0x0#32 [(15#4, 0x4000#32)] with vbr := 0x0#32 }
      (fun t => (t.expevt, t.reg 15#4, t.pc)) =
      some (0x180#12, 0x4000#32, 0x100#32) := by decide

/-- vector, V171: STC.L R2_BANK,@-R15. -/
theorem test_stcLR2Bank :
    after (.stcLR2Bank 0xF#4)
      (poke1 (start 0x40000000#32 [(15#4, 0x4000#32)]) 2 0xDD#32)
      (fun t => (t.reg 15#4, t.memRead 0x3FFC#32 .long)) =
      some (0x3FFC#32, 0xDD#32) := by decide

/-- example, E67: STS MACH,R0. -/
theorem test_stsMach :
    after (.stsMach 0x0#4)
      { start 0x40000000#32 [(0#4, 0xFFFFFFFF#32)] with mach := 0x0#32 }
      (fun t => t.reg 0#4) =
      some (0x0#32) := by decide

/-- vector, V173: STS MACL,R1. -/
theorem test_stsMacl :
    after (.stsMacl 0x1#4)
      { start 0x40000000#32 [] with macl := 0x12345678#32 }
      (fun t => t.reg 1#4) =
      some (0x12345678#32) := by decide

/-- vector, V175: STS.L MACH,@-R15. -/
theorem test_stsLMach :
    after (.stsLMach 0xF#4)
      { start 0x40000000#32 [(15#4, 0x4000#32)] with mach := 0xABCD#32 }
      (fun t => (t.reg 15#4, t.memRead 0x3FFC#32 .long)) =
      some (0x3FFC#32, 0xABCD#32) := by decide

/-- example, E68: STS.L PR,@-R15. -/
theorem test_stsLPr :
    after (.stsLPr 0xF#4)
      { start 0x40000000#32 [(15#4, 0x10000004#32)] with pr := 0x1238#32 }
      (fun t => (t.reg 15#4, t.memRead 0x10000000#32 .long)) =
      some (0x10000000#32, 0x1238#32) := by decide

/-- vector, V182: TRAPA #H'FF. -/
theorem test_trapa :
    after (.trapa 0xFF#8)
      { start 0xF1#32 [] with vbr := 0x8C000000#32 }
      (fun t => (CtrlReg.get .tra t, t.expevt, t.ssr, t.spc)) =
      some (0x3FC#32, 0x160#12, 0xF1#32, 0x1002#32) := by decide

/-- V28. -/
theorem test_movWLoadPc :
    after (.movWLoadPc 1#8 1#4) ((start 0x40000000#32 []).memWrite 0x1006#32 .word 0x8000#32)
      (fun t => t.reg 1#4) = some 0xFFFF8000#32 := by decide

/-- V156: in a delay slot PC is the target plus 2. -/
theorem test_movWLoadPc_inSlot :
    after (.movWLoadPc 0#8 1#4)
      ({ start 0x40000000#32 [] with pending := some 0x1006#32 }.memWrite 0x1008#32 .word 0x3333#32)
      (fun t => (t.reg 1#4, t.pc)) = some (0x3333#32, 0x1006#32) := by decide

/-- V29: an odd multiple of 2. -/
theorem test_movLLoadPc :
    after (.movLLoadPc 1#8 1#4)
      ({ start 0x40000000#32 [] with pc := 0x1002#32 }.memWrite 0x1008#32 .long 0xA1B2C3D4#32)
      (fun t => t.reg 1#4) = some 0xA1B2C3D4#32 := by decide

/-- R163's example. -/
theorem test_movLLoad :
    after (.movLLoad 4#4 4#4) ((start 0x40000000#32 [(4#4, 0x3000#32)]).memWrite 0x3000#32 .long 0x01020304#32)
      (fun t => t.reg 4#4) = some 0x01020304#32 := by decide

/-- V38: a misaligned word read. -/
theorem test_movWLoad_misaligned :
    after (.movWLoad 2#4 1#4) (start 0x40000000#32 [(2#4, 0x3001#32), (1#4, 0x55#32)])
      (fun t => (t.gpr.read (.bank0 1), t.expevt, t.spc, t.ssr, t.sr, t.pc)) =
      some (0x55#32, 0x0E0#12, 0x1000#32, 0x40000000#32, 0x70000000#32, 0x8C000100#32) := by decide

/-- V39: a misaligned store changes neither memory nor the address register. -/
theorem test_movLPreDec_misaligned :
    after (.movLPreDec 1#4 2#4) (start 0x40000000#32 [(1#4, 1#32), (2#4, 0x3002#32)])
      (fun t => (t.gpr.read (.bank0 2), t.expevt, t.mem)) = some (0x3002#32, 0x100#12, []) := by decide

/-- V12: with one register the loaded value stays. -/
theorem test_movLPostInc_sameRegister :
    after (.movLPostInc 2#4 2#4) ((start 0x40000000#32 [(2#4, 0x3000#32)]).memWrite 0x3000#32 .long 0x12345678#32)
      (fun t => t.reg 2#4) = some 0x12345678#32 := by decide

/-- R177, R178, R183: the address is the sum, the datum the low bits. -/
theorem test_indexedStores :
    after (.movWStoreIdx 3#4 2#4) (start 0x40000000#32 [(0#4, 6#32), (2#4, 0x3000#32), (3#4, 0x11228001#32)])
      (fun t => t.memRead 0x3006#32 .word) = some 0x8001#32 ∧
    after (.movLStoreIdx 3#4 2#4) (start 0x40000000#32 [(0#4, 8#32), (2#4, 0x3000#32), (3#4, 0x11228001#32)])
      (fun t => t.memRead 0x3008#32 .long) = some 0x11228001#32 ∧
    after (.movWStoreGbr 3#8) { start 0x40000000#32 [(0#4, 0x9ABC8001#32)] with gbr := 0x2000#32 }
      (fun t => t.memRead 0x2006#32 .word) = some 0x8001#32 := by decide

/-- R179's example. -/
theorem test_movBLoadIdx :
    after (.movBLoadIdx 2#4 1#4)
      ((start 0x40000000#32 [(0#4, 4#32), (2#4, 0x10000000#32)]).memWrite 0x10000004#32 .byte 0xFF#32)
      (fun t => t.reg 1#4) = some 0xFFFFFFFF#32 := by decide

/-- V89: with one register the operands are neighbours. -/
theorem test_macL_sameRegister :
    after (.macL 1#4 1#4)
      (((start 0x40000000#32 [(1#4, 0x3000#32)]).memWrite 0x3000#32 .long 3#32).memWrite 0x3004#32 .long 5#32)
      (fun t => (t.mach, t.macl, t.reg 1#4)) = some (0#32, 0xF#32, 0x3008#32) := by decide

/-- V88: the 48-bit accumulator saturates below. -/
theorem test_macL_saturates :
    after (.macL 1#4 2#4)
      (({ start 0x40000002#32 [(1#4, 0x3000#32), (2#4, 0x3004#32)] with mach := 0xFFFF8000#32 }.memWrite 0x3000#32
        .long 0xFFFFFFFF#32).memWrite 0x3004#32 .long 1#32)
      (fun t => (t.mach, t.macl)) = some (0xFFFF8000#32, 0#32) := by decide

/-- V91: MACL saturates below, and bit 0 of MACH is set. -/
theorem test_macW_saturates :
    after (.macW 1#4 2#4)
      (({ start 0x40000002#32 [(1#4, 0x3000#32), (2#4, 0x3002#32)] with macl := 0x80000000#32 }.memWrite 0x3000#32
        .word 0xFFFF#32).memWrite 0x3002#32 .word 1#32)
      (fun t => (t.mach, t.macl)) = some (1#32, 0x80000000#32) := by decide

/-- V112: all sign bits. -/
theorem test_shad_allSignBits :
    after (.shad 3#4 4#4) (start 0x40000000#32 [(3#4, 0xFFFFFFE0#32), (4#4, 0x80000000#32)])
      (fun t => t.reg 4#4) = some 0xFFFFFFFF#32 := by decide

/-- V117: nothing left. -/
theorem test_shld_nothingLeft :
    after (.shld 3#4 4#4) (start 0x40000000#32 [(3#4, 0xFFFFFFE0#32), (4#4, 0x80000000#32)])
      (fun t => t.reg 4#4) = some 0#32 := by decide

/-- V66: the subtraction path with M = 1. -/
theorem test_div1_addition :
    after (.div1 0#4 1#4) (start 0x40000201#32 [(1#4, 0x7FFFFFFF#32), (0#4, 0xFFFFFFFF#32)])
      (fun t => (t.reg 1#4, t.q, t.m, t.t)) = some (0xFFFFFFFE#32, false, true, false) := by decide

/-- V139 and V142: taken and not taken. -/
theorem test_btS :
    after (.btS 6#8) (start 0x40000001#32 []) (fun t => (t.pc, t.pending)) = some (0x1002#32, some 0x1010#32) ∧
    after (.btS 6#8) (start 0x40000000#32 []) (fun t => (t.pc, t.pending)) = some (0x1002#32, none) := by decide

/-- V141: BF/S looks at T before its slot. -/
theorem test_bfS :
    after (.bfS 6#8) (start 0x40000000#32 []) (fun t => (t.pc, t.pending)) = some (0x1002#32, some 0x1010#32) := by decide

/-- V143 and V144: the ends of the range. -/
theorem test_bra :
    after (.bra 0x800#12) (start 0x40000000#32 []) (fun t => t.pending) = some (some 0x4#32) ∧
    after (.bra 0x7FF#12) (start 0x40000000#32 []) (fun t => t.pending) = some (some 0x2002#32) := by decide

/-- V145 to V149: targets and return addresses. -/
theorem test_jumps_and_calls :
    after (.bsr 6#12) (start 0x40000000#32 []) (fun t => (t.pending, t.pr)) = some (some 0x1010#32, 0x1004#32) ∧
    after (.braf 1#4) (start 0x40000000#32 [(1#4, 0xFFFFFFFC#32)]) (fun t => t.pending) = some (some 0x1000#32) ∧
    after (.bsrf 1#4) (start 0x40000000#32 [(1#4, 0x100#32)]) (fun t => (t.pending, t.pr)) =
      some (some 0x1104#32, 0x1004#32) ∧
    after (.jmp 1#4) (start 0x40000000#32 [(1#4, 0x2000#32)]) (fun t => (t.pc, t.pending)) =
      some (0x1002#32, some 0x2000#32) ∧
    after (.jsr 1#4) (start 0x40000000#32 [(1#4, 0x2000#32)]) (fun t => (t.pending, t.pr)) =
      some (some 0x2000#32, 0x1004#32) := by decide

/-- V150: RTS takes PR. -/
theorem test_rts :
    after .rts { start 0x40000000#32 [] with pr := 0x2000#32 } (fun t => (t.pc, t.pending)) =
      some (0x1002#32, some 0x2000#32) := by decide

/-- V152: a branch in a delay slot; SPC is the first branch's address. -/
theorem test_branch_inSlot :
    after (.bra 0xD#12) { start 0x40000000#32 [] with pc := 0x1002#32, pending := some 0x1010#32 }
      (fun t => (t.expevt, t.spc, t.pending, t.pc)) = some (0x1A0#12, 0x1000#32, none, 0x8C000100#32) := by decide

/-- R340 to R347, V166: with RB = 1 the operand is bank 0, and bank 1 keeps its registers. -/
theorem test_ldcBank :
    ([Instr.ldcR0Bank 8#4, .ldcR1Bank 8#4, .ldcR2Bank 8#4, .ldcR3Bank 8#4, .ldcR4Bank 8#4, .ldcR5Bank 8#4,
        .ldcR6Bank 8#4, .ldcR7Bank 8#4].zip (List.finRange 8)).all (fun p =>
      after p.1 (start 0x60000000#32 [(8#4, 0xBB#32)]) (fun t => (t.gpr.read (.bank0 p.2), t.gpr.bank1)) =
        some (0xBB#32, zeroBank)) = true := by decide

/-- R353 to R360: with RB = 0 the operand is bank 1. -/
theorem test_ldcLBank :
    ([Instr.ldcLR0Bank 8#4, .ldcLR1Bank 8#4, .ldcLR2Bank 8#4, .ldcLR3Bank 8#4, .ldcLR4Bank 8#4, .ldcLR5Bank 8#4,
        .ldcLR6Bank 8#4, .ldcLR7Bank 8#4].zip (List.finRange 8)).all (fun p =>
      after p.1 ((start 0x40000000#32 [(8#4, 0x3000#32)]).memWrite 0x3000#32 .long 0xBB#32)
        (fun t => (t.gpr.read (.bank1 p.2), t.reg 8#4)) = some (0xBB#32, 0x3004#32)) = true := by decide

/-- R378 to R385. -/
theorem test_stcBank :
    ([Instr.stcR0Bank 8#4, .stcR1Bank 8#4, .stcR2Bank 8#4, .stcR3Bank 8#4, .stcR4Bank 8#4, .stcR5Bank 8#4,
        .stcR6Bank 8#4, .stcR7Bank 8#4].zip (List.finRange 8)).all (fun p =>
      after p.1 (poke1 (start 0x40000000#32 []) p.2 0xCC#32) (fun t => t.reg 8#4) = some 0xCC#32) = true := by decide

/-- R391 to R398. -/
theorem test_stcLBank :
    ([Instr.stcLR0Bank 8#4, .stcLR1Bank 8#4, .stcLR2Bank 8#4, .stcLR3Bank 8#4, .stcLR4Bank 8#4, .stcLR5Bank 8#4,
        .stcLR6Bank 8#4, .stcLR7Bank 8#4].zip (List.finRange 8)).all (fun p =>
      after p.1 (poke1 (start 0x40000000#32 [(8#4, 0x3004#32)]) p.2 0xDD#32)
        (fun t => (t.reg 8#4, t.memRead 0x3000#32 .long)) = some (0x3000#32, 0xDD#32)) = true := by decide

/-- R351, R352, R362, R364: the longword goes to its register, SSR's reserved bits stay 0. -/
theorem test_pops :
    after (.ldcLSsr 8#4) ((start 0x40000000#32 [(8#4, 0x3000#32)]).memWrite 0x3000#32 .long 0xFFFFFFFF#32)
      (fun t => (t.ssr, t.reg 8#4)) = some (0x700003F3#32, 0x3004#32) ∧
    after (.ldcLSpc 8#4) ((start 0x40000000#32 [(8#4, 0x3000#32)]).memWrite 0x3000#32 .long 0x12345679#32)
      (fun t => (t.spc, t.reg 8#4)) = some (0x12345679#32, 0x3004#32) ∧
    after (.ldsLMach 8#4) ((start 0x40000000#32 [(8#4, 0x3000#32)]).memWrite 0x3000#32 .long 0x12345679#32)
      (fun t => (t.mach, t.reg 8#4)) = some (0x12345679#32, 0x3004#32) ∧
    after (.ldsMacl 8#4) (start 0x40000000#32 [(8#4, 0x3000#32)]) (fun t => t.macl) = some 0x3000#32 := by decide

/-- R375 to R377, R401: whole registers. -/
theorem test_stores_toRegisters :
    after (.stcVbr 8#4) (start 0x40000000#32 []) (fun t => t.reg 8#4) = some 0x8C000000#32 ∧
    after (.stcSsr 8#4) { start 0x40000000#32 [] with ssr := 0x700003F3#32 } (fun t => t.reg 8#4) =
      some 0x700003F3#32 ∧
    after (.stcSpc 8#4) { start 0x40000000#32 [] with spc := 0x1235#32 } (fun t => t.reg 8#4) = some 0x1235#32 ∧
    after (.stsPr 8#4) { start 0x40000000#32 [] with pr := 0x1238#32 } (fun t => t.reg 8#4) = some 0x1238#32 := by decide

/-- R388, R390, R403: stored below the address register. -/
theorem test_pushes :
    after (.stcLVbr 8#4) (start 0x40000000#32 [(8#4, 0x3004#32)])
      (fun t => (t.reg 8#4, t.memRead 0x3000#32 .long)) = some (0x3000#32, 0x8C000000#32) ∧
    after (.stcLSpc 8#4) { start 0x40000000#32 [(8#4, 0x3004#32)] with spc := 0x1235#32 }
      (fun t => (t.reg 8#4, t.memRead 0x3000#32 .long)) = some (0x3000#32, 0x1235#32) ∧
    after (.stsLMacl 8#4) { start 0x40000000#32 [(8#4, 0x3004#32)] with macl := 0x1235#32 }
      (fun t => (t.reg 8#4, t.memRead 0x3000#32 .long)) = some (0x3000#32, 0x1235#32) := by decide

/-- V192: SR is restored before the slot. -/
theorem test_rte :
    after .rte { start 0x70000000#32 [] with ssr := 0x400000F1#32, spc := 0x2000#32 }
      (fun t => (t.sr, t.pc, t.pending)) = some (0x400000F1#32, 0x1002#32, some 0x2000#32) := by decide

/-- V187: user mode. -/
theorem test_rte_userMode :
    after .rte (start 0#32 []) (fun t => (t.expevt, t.spc, t.pc)) = some (0x180#12, 0x1000#32, 0x8C000100#32) := by decide

/-- V193: the restored SR has MD = 0, so a privileged slot instruction is slot illegal. -/
theorem test_stcSr_inSlot_userMode :
    after (.stcSr 1#4) { start 0#32 [] with pc := 0x1002#32, pending := some 0x2000#32 }
      (fun t => (t.expevt, t.sr, t.ssr, t.spc)) = some (0x1A0#12, 0x70000000#32, 0#32, 0x1000#32) := by decide

/-- V185: user mode, no store. -/
theorem test_stcLSsr_userMode :
    after (.stcLSsr 15#4) (start 0#32 [(15#4, 0x4000#32)]) (fun t => (t.expevt, t.reg 15#4, t.mem)) =
      some (0x180#12, 0x4000#32, []) := by decide

/-- R370: LDTLB writes PTEH and PTEL at the way that MMUCR.RC names. -/
theorem test_ldtlb_writes :
    after .ldtlb { start 0x40000000#32 [] with pteh := 0x1234#32, ptel := 0x5678#32, mmucr := 0x20#32 }
      (fun t => t.tlb.map fun e => (e.way, e.tag, e.data)) = some [(2, 0x1234#32, 0x5678#32)] := by decide

/-- R8, R53 (log entry 19): with two ways, way 2 does not exist, and way 1 does. -/
theorem test_ldtlb_geometry :
    after .ldtlb
        { start 0x40000000#32 [] with
          mmucr := 0x20#32, platform := { Platform.family with tlbWays := 2, tlbEntries := 1 } }
        (fun t => (t.tlb, t.pc)) = some ([], 0x1002#32) ∧
      after .ldtlb
        { start 0x40000000#32 [] with
          mmucr := 0x10#32, platform := { Platform.family with tlbWays := 2, tlbEntries := 1 } }
        (fun t => t.tlb.map TlbEntry.way) = some [1] := by decide

/-- R372, R49: STBY selects standby. -/
theorem test_sleep_standby :
    after .sleep { start 0x40000000#32 [] with stbcr := 0x80#8 } (fun t => (t.mode, t.pc)) =
      some (.standby, 0x1002#32) := by decide

/-! ### One step of the machine -/

/-- V190 and V191: undefined words. -/
theorem test_step_undefinedCode :
    afterStep 0xFFFD#16 (start 0#32 []) (fun t => (t.expevt, t.spc, t.pc)) =
      some (0x180#12, 0x1000#32, 0x8C000100#32) ∧
    afterStep 0x0000#16 (start 0x40000000#32 []) (fun t => t.expevt) = some 0x180#12 := by decide

/-- V154: an undefined word in a slot. -/
theorem test_step_undefinedCode_inSlot :
    afterStep 0xFFFF#16 { start 0x40000000#32 [] with pc := 0x1002#32, pending := some 0x1010#32 }
      (fun t => (t.expevt, t.spc)) = some (0x1A0#12, 0x1000#32) := by decide

/-- R476: an exception with BL = 1. -/
theorem test_step_blocked :
    afterStep 0xFFFF#16 { start 0x70000000#32 [] with spc := 0x44#32 }
      (fun t => (t.sr, t.vbr, t.expevt, t.spc, t.pc)) =
      some (0x700000F0#32, 0#32, 0x020#12, 0x44#32, 0xA0000000#32) := by decide

/-- R451, R482, R480: the reset of an exception with BL = 1 samples pin MD5, at its old level and at one that the host
sets; a change of the pin alone leaves the byte order. -/
theorem test_step_blocked_byteOrder :
    afterStep 0xFFFF#16 { start 0x70000000#32 [] with md5 := true } (fun t => (t.littleEndian, t.pc)) =
      some (true, 0xA0000000#32) ∧
    afterStep 0xFFFF#16
      { start 0x70000000#32 [] with
        md5 := true, inputs := [{ reset := none, md5 := some false, request := none, answers := [] }] }
      (fun t => (t.littleEndian, t.md5)) = some (false, false) ∧
    afterStep 0x0009#16
      { start 0x40000000#32 [] with
        inputs := [{ reset := none, md5 := some true, request := none, answers := [] }] }
      (fun t => (t.littleEndian, t.md5)) = some (false, true) := by decide

/-- V151: an odd target faults at its own fetch. -/
theorem test_step_oddTarget :
    (match step { start 0x40000000#32 [] with pc := 0x2001#32 } with
      | .next t => some (t.expevt, t.spc, t.ssr)
      | _ => none) = some (0x0E0#12, 0x2001#32, 0x40000000#32) := by decide

/-- R90: an instruction stored by an earlier store is fetched, little endian. -/
theorem test_step_littleEndian :
    afterStep 0x7201#16 { start 0x40000000#32 [] with littleEndian := true } (fun t => (t.reg 2#4, t.pc)) =
      some (1#32, 0x1002#32) := by decide

/-- P6, steps 7 to 9: held off by the mask, then accepted from sleep. -/
theorem test_interrupt :
    (match step { start 0x40000030#32 [] with
        mode := .sleeping, vbr := 0#32,
        inputs := [{ reset := none, md5 := none, request := some { level := 2, code := 0x2A0#32 }, answers := [] }] } with
      | .next t => some (t.mode, t.pc)
      | _ => none) = some (.sleeping, 0x1000#32) ∧
    (match step { start 0x40000030#32 [] with
        mode := .sleeping, vbr := 0#32,
        inputs := [{ reset := none, md5 := none, request := some { level := 5, code := 0x2A0#32 }, answers := [] }] } with
      | .next t => some (t.mode, t.pc, t.spc, t.ssr, t.sr, t.intevt)
      | _ => none) = some (.running, 0x600#32, 0x1000#32, 0x40000030#32, 0x70000030#32, 0x2A0#32) := by decide

/-- A state with device registers at H'5000 to H'500F, nothing at H'5800 to H'58FF, and a byte write forbidden at H'6000. -/
def mappedState : State :=
  { start 0x40000000#32 [(1#4, 0x5000#32), (2#4, 0x5004#32), (3#4, 0x5800#32), (4#4, 0x5010#32)] with
    memMap := [{ base := 0x5000, bytes := 16, kind := .device, forbidden := [], userForbidden := [] },
      { base := 0x5800, bytes := 256, kind := .unmapped, forbidden := [], userForbidden := [] },
      { base := 0x6000, bytes := 4, kind := .memory, forbidden := [(.write, .byte), (.write, .long)],
        userForbidden := [(.read, .byte)] }] }

/-- R96, R235: the two reads of one MAC.W are two events in program order, each with an answer of its own. -/
theorem test_macW_device :
    after (.macW 1#4 2#4) { mappedState with deviceIn := [0xFFFF0003#32, 5#32, 9#32] }
      (fun t => (t.macl, t.deviceIn, t.deviceOut)) =
      some (15#32, [9#32], [.read 0x5004#32 .word 3#32, .read 0x5000#32 .word 5#32]) := by decide

/-- R235, R447: a refused second operand leaves everything, and no device has been read. -/
theorem test_macL_device_refused :
    after (.macL 3#4 2#4) { mappedState with deviceIn := [1#32] }
      (fun t => (t.expevt, t.deviceIn, t.deviceOut, t.gpr.read (.bank0 2), t.spc)) =
      some (0x0E0#12, [1#32], [], 0x5004#32, 0x1000#32) := by decide

/-- R96, R268, R81: the read and the write of TAS.B, in that order. -/
theorem test_tasB_device :
    after (.tasB 1#4) { mappedState with deviceIn := [0x100#32] } (fun t => (t.t, t.deviceOut, t.mem)) =
      some (true, [.read 0x5000#32 .byte 0#32, .write 0x5000#32 .byte 0x80#32], []) := by decide

/-- R71 (log entry 39): a load from and a store to an unmapped address are address errors; the byte before is free. -/
theorem test_unmapped :
    after (.movBLoad 3#4 0#4) mappedState (fun t => (t.expevt, t.pc)) = some (0x0E0#12, 0x8C000100#32) ∧
      after (.movBStore 0#4 3#4) mappedState (fun t => (t.expevt, t.mem)) = some (0x100#12, []) ∧
      mappedState.accessOk .write 0x57FF#32 .byte = true ∧ mappedState.accessOk .fetch 0x58FE#32 .word = false ∧
      mappedState.accessOk .read 0x5900#32 .long = true := by decide

/-- Another platform: another address of TRA, other codes and offsets, bank 0 and BL = 0 after a reset. -/
def otherPlatform : Platform :=
  { Platform.family with
    ctrlRegAddr := { Platform.family.ctrlRegAddr with tra := some 0x7000#32, stbcr := none }
    illegal := { code := 0xABC#12, offset := 0x340#32 }
    manualCode := 0x555#12
    interruptOffset := 0x700#32
    interruptRegister := .expevt
    resetRb := false
    resetBl := false
    stbyBit := 0 }

/-- R8, R52, R441: the parameters are the state's: a load of TRA, an illegal instruction, a register outside memory. -/
theorem test_platform :
    after (.movLLoad 1#4 0#4)
        { start 0x40000000#32 [(1#4, 0x7000#32)] with platform := otherPlatform, tra := 0xFF#8 }
        (fun t => t.reg 0#4) = some 0x3FC#32 ∧
      after (.ldcSr 1#4) { start 0#32 [] with platform := otherPlatform } (fun t => (t.expevt, t.pc, t.sr)) =
        some (0xABC#12, 0x8C000340#32, 0x70000000#32) ∧
      ctrlByte otherPlatform 0xFFFFFF82#32 = none ∧ ctrlByte otherPlatform 0xFFFFFFD0#32 = none ∧
      after .sleep { start 0x40000000#32 [] with platform := otherPlatform, stbcr := 1#8 } (fun t => t.mode) =
        some .standby := by decide

/-- R8, R453, R480: the parameters of an interrupt and of a reset. -/
theorem test_platform_interrupt :
    (match step { start 0x40000000#32 [] with
        platform := otherPlatform
        inputs := [{ reset := none, md5 := none, request := some { level := 1, code := 0x2A0#32 }, answers := [] }] } with
      | .next t => some (t.pc, t.expevt, t.intevt)
      | _ => none) = some (0x8C000700#32, 0x2A0#12, 0#32) ∧
    (match step { start 0x40000003#32 [] with
        platform := otherPlatform
        inputs := [{ reset := some .manual, md5 := none, request := none, answers := [] }] } with
      | .next t => some (t.sr, t.expevt)
      | _ => none) = some (0x400000F3#32, 0x555#12) := by decide

/-! ### Witnesses: a state and operands that meet the hypotheses of each statement -/

/-- A step's input without a reset and without a request. -/
theorem no_request (s : State) (h : s.input.request = none) :
    ∀ r, s.input.request = some r → s.afterInput.accepts r = false := by
  intro r hr
  rw [h] at hr
  cases hr

/-- Privileged mode, bank 0, BL = 0: registers point to aligned memory. -/
def plainState : State := start 0x40000000#32 [(1#4, 0x3000#32), (2#4, 0x4000#32), (3#4, 0x3001#32)]

/-- The same in a delay slot. -/
def slotState : State := { plainState with pc := 0x1002#32, pending := some 0x2000#32 }

/-- User mode. -/
def userState : State := start 0#32 [(1#4, 0x3000#32)]

/-- A state at whose boundary the host presents one input. -/
def presented (s : State) (i : HostInput) : State := { s with inputs := [i] }

/-- The input of a request. -/
def request (level : Fin 17) : HostInput :=
  { reset := none, md5 := none, request := some { level := level, code := 0x2A0#32 }, answers := [] }

/-- The input of a reset. -/
def resetInput (k : ResetKind) : HostInput :=
  { reset := some k, md5 := some true, request := none, answers := [] }

theorem witness_EncodeOfDecode : decode 0x310C#16 = .ok (.add 0#4 1#4) := by decide

/-- Memory, a device with and without an answer of the host, a control register, the default platform, no memory map, and
both ends of an unmapped region. -/
theorem witness_ReadsAndAlignment :
    State.reset.memMap = [] ∧ State.reset.platform = Platform.family ∧ mappedState.isDevice 0x5010#32 = false ∧
      mappedState.isDevice 0x5000#32 = true ∧ mappedState.deviceIn = [] ∧
      ({ mappedState with deviceIn := [1#32] } : State).isDevice 0x500F#32 = true ∧
      State.reset.ctrlAt 0xFFFFFFD0#32 .long .tra ∧ State.reset.ctrlAt 0xFFFFFF82#32 .byte .stbcr ∧
      mappedState.accessOk .read 0x57FC#32 .long = true ∧ mappedState.accessOk .read 0x5800#32 .long = false ∧
      mappedState.accessOk .read 0x58FF#32 .byte = false ∧ mappedState.accessOk .read 0x5900#32 .byte = true := by
  unfold State.ctrlAt
  decide

/-- One state for each clause of StoreEffect: memory at both ends of the address space, a control register, a device. -/
theorem witness_StoresReadBack :
    aligned 0#32 .long = true ∧ aligned 0xFFFFFF7C#32 .long = true ∧ Memory.wf plainState.mem = true ∧
      (∀ k : Fin 4, ctrlByte plainState.platform (0xFFFFFF7C#32 + BitVec.ofNat 32 k.val) = none) ∧
      plainState.isDevice 0xFFFFFF7C#32 = false ∧ aligned 0xFFFFFFF0#32 .long = true ∧
      plainState.ctrlAt 0xFFFFFFF0#32 .long .pteh ∧ plainState.ctrlAt 0xFFFFFF82#32 .byte .stbcr ∧
      aligned 0x5000#32 .word = true ∧ mappedState.isDevice 0x5000#32 = true ∧
      mappedState.isDevice 0x500F#32 = true ∧ mappedState.isDevice 0x5010#32 = false := by
  unfold State.ctrlAt
  decide

theorem witness_StepRunsTheDecodedInstruction :
    let s := plainState.storeCode 0x310C#16
    s.input.reset = none ∧ (∀ r, s.input.request = some r → s.afterInput.accepts r = false) ∧ s.mode = .running ∧
      s.afterInput.fetch = some 0x310C#16 ∧ decode 0x310C#16 = .ok (.add 0#4 1#4) ∧ s.inputs = [] :=
  ⟨rfl, no_request _ rfl, rfl, by decide, by decide, rfl⟩

theorem witness_StepRaisesOnUndefinedCode :
    let s := slotState.storeCode 0xFFFD#16
    s.input.reset = none ∧ (∀ r, s.input.request = some r → s.afterInput.accepts r = false) ∧ s.mode = .running ∧
      s.afterInput.fetch = some 0xFFFD#16 ∧ decode 0xFFFD#16 = .error (.undefinedCode 0xFFFD#16) ∧
      plainState.pending = none :=
  ⟨rfl, no_request _ rfl, rfl, by decide, by decide, rfl⟩

/-- An even and an odd pc. -/
theorem witness_StepRaisesOnBadFetch :
    plainState.input.reset = none ∧
      (∀ r, plainState.input.request = some r → plainState.afterInput.accepts r = false) ∧
      plainState.mode = .running ∧ plainState.pc.toNat % 2 = 0 ∧
      plainState.afterInput.forbids .fetch plainState.pc .word = false ∧
      ({ plainState with pc := 0xFFFFFFFF#32 } : State).pc.toNat % 2 = 1 ∧
      mappedState.forbids .fetch 0x5000#32 .word = true :=
  ⟨rfl, no_request _ rfl, rfl, by decide, by decide, by decide, by decide⟩

theorem witness_ResetInputResets :
    (presented slotState (resetInput .powerOn)).input.reset = some .powerOn ∧
      (presented slotState (resetInput .manual)).input.reset = some .manual ∧
      slotState.platform = Platform.family := by decide

/-- The lowest level above the mask, the level at the mask, level 16 above mask 15, and a request in a slot. -/
theorem witness_InterruptAcceptance :
    let s := start 0x40000030#32 []
    (presented s (request 4)).input.request = some { level := 4, code := 0x2A0#32 } ∧
      (presented s (request 4)).input.reset = none ∧ s.pending = none ∧ (s.sr.extractLsb' 4 4).toNat = 3 ∧
      s.sr.getLsbD 28 = false ∧ ¬ (s.sr.extractLsb' 4 4).toNat < (3 : Fin 17).val ∧
      ((0xF0#32).extractLsb' 4 4).toNat < (16 : Fin 17).val ∧
      (presented slotState (request 16)).input.request = some { level := 16, code := 0x2A0#32 } ∧
      s.platform = Platform.family ∧ s.platform.interruptRegister = .intevt := by decide

theorem witness_NoInterruptBeforeTheSlot :
    (presented slotState (request 16)).pending = some 0x2000#32 ∧
      (presented slotState (request 16)).input.reset = none ∧
      (presented slotState (resetInput .manual)).input.reset = some .manual := by decide

theorem witness_SleepingStepWaits :
    let s : State := { plainState with mode := .standby }
    s.mode ≠ .running ∧ s.input.reset = none ∧
      (∀ r, s.input.request = some r → s.afterInput.accepts r = false) :=
  ⟨by decide, rfl, no_request _ rfl⟩

theorem witness_GeneralExceptionEntry :
    plainState.sr.getLsbD 28 = false ∧ plainState.pending = none ∧ slotState.sr.getLsbD 28 = false ∧
      slotState.pending ≠ none ∧ plainState.platform = Platform.family := by decide

theorem witness_BlockedExceptionResets :
    State.reset.sr.getLsbD 28 = true ∧ State.reset.platform = Platform.family := by decide

theorem witness_PrivilegedInstructionsTrapInUserMode :
    Instr.sleep.isPrivileged = true ∧ userState.sr.getLsbD 30 = false ∧ userState.pending = none ∧
      ({ userState with pending := some 0x2000#32 } : State).pending ≠ none := by decide

theorem witness_SlotIllegalInstructions :
    (Instr.trapa 1#8).isSlotIllegal = true ∧ slotState.pending = some 0x2000#32 ∧ plainState.pending = none ∧
      plainState.sr.getLsbD 0 = false ∧ (start 0x40000001#32 []).pending = none ∧
      (start 0x40000001#32 []).sr.getLsbD 0 = true := by decide

theorem witness_MovaAddsToTheMaskedPc : plainState.pending = none ∧ slotState.pending = some 0x2000#32 := by decide

/-- An admitted and a refused access. -/
theorem witness_Loads :
    loadForm plainState (.movLLoad 1#4 5#4) = some (.long, 0x3000#32, 5#4) ∧
      plainState.accessOk .read 0x3000#32 .long = true ∧
      loadForm plainState (.movLLoad 3#4 5#4) = some (.long, 0x3001#32, 5#4) ∧
      plainState.accessOk .read 0x3001#32 .long = false := by decide

theorem witness_BaseRelativeLoads :
    baseLoadForm plainState (.movLLoadPc 0xFF#8 5#4) = some (.long, 0x1400#32, 5#4) ∧
      plainState.accessOk .read 0x1400#32 .long = true ∧
      baseLoadForm { plainState with gbr := 1#32 } (.movWLoadGbr 0#8) = some (.word, 1#32, 0#4) ∧
      plainState.accessOk .read 1#32 .word = false := by decide

theorem witness_PostIncrementLoads :
    postIncForm (.movLPostInc 1#4 5#4) = some (.long, 1#4, 5#4) ∧
      postIncForm (.movLPostInc 1#4 1#4) = some (.long, 1#4, 1#4) ∧
      plainState.accessOk .read (plainState.reg 1#4) .long = true ∧
      plainState.accessOk .read (plainState.reg 3#4) .long = false := by decide

theorem witness_Stores :
    storeForm plainState (.movLStore 5#4 1#4) = some (.long, 0x3000#32, 5#4) ∧
      plainState.accessOk .write 0x3000#32 .long = true ∧
      storeForm plainState (.movLStore 5#4 3#4) = some (.long, 0x3001#32, 5#4) ∧
      plainState.accessOk .write 0x3001#32 .long = false ∧
      mappedState.accessOk .write 0x6000#32 .long = false := by decide

theorem witness_PreDecrementStores :
    preDecForm (.movLPreDec 5#4 1#4) = some (.long, 5#4, 1#4) ∧
      plainState.accessOk .write (plainState.preDec 1#4 .long) .long = true ∧
      plainState.accessOk .write (plainState.preDec 3#4 .long) .long = false := by decide

theorem witness_PrefSleepLdtlb :
    plainState.sr.getLsbD 30 = true ∧ Tlb.wf plainState.tlb = true ∧ plainState.platform = Platform.family ∧
      plainState.stbcr.getLsbD 7 = false ∧
      ({ plainState with stbcr := 0x80#8 } : State).stbcr.getLsbD 7 = true := by decide

/-- Two registers and one, both sizes, saturation off and on, and a refused second operand. -/
theorem witness_MultiplyAccumulate :
    (Instr.macL 1#4 2#4 = .macL 1#4 2#4 ∧ Size.long = .long) ∧ (Instr.macW 1#4 1#4 = .macW 1#4 1#4 ∧ Size.word = .word) ∧
      plainState.accessOk .read (plainState.reg 2#4) .long = true ∧
      plainState.accessOk .read (plainState.reg 1#4) .long = true ∧
      plainState.accessOk .read (plainState.reg 1#4 + 2#32) .word = true ∧
      plainState.accessOk .read (plainState.reg 3#4) .long = false ∧ plainState.sr.getLsbD 1 = false ∧
      (start 0x40000002#32 []).sr.getLsbD 1 = true := by decide

/-- A read and a write admitted, a write refused, a read refused. -/
theorem witness_LogicOfMemory :
    (byteLogicForm (.andB 0x0F#8)).isSome = true ∧ plainState.accessOk .read plainState.indexedGbr .byte = true ∧
      plainState.accessOk .write plainState.indexedGbr .byte = true ∧
      mappedState.accessOk .read 0x6000#32 .byte = true ∧ mappedState.accessOk .write 0x6000#32 .byte = false ∧
      ({ mappedState with sr := 0#32 } : State).accessOk .read 0x6000#32 .byte = false ∧
      ({ mappedState with gbr := 0x6000#32 } : State).indexedGbr = 0x6000#32 := by decide

theorem witness_TestAndSet :
    plainState.accessOk .read (plainState.reg 1#4) .byte = true ∧
      plainState.accessOk .write (plainState.reg 1#4) .byte = true ∧
      (mappedState.setReg 1#4 0x6000#32).reg 1#4 = 0x6000#32 ∧
      (mappedState.setReg 1#4 0x6000#32).accessOk .write 0x6000#32 .byte = false ∧
      mappedState.accessOk .read (mappedState.reg 3#4) .byte = false ∧
      mappedState.isDevice (mappedState.reg 1#4) = true := by decide

/-- T clear, T set, and a slot. -/
theorem witness_ConditionalBranches :
    plainState.pending = none ∧ plainState.sr.getLsbD 0 = false ∧ (start 0x40000001#32 []).pending = none ∧
      (start 0x40000001#32 []).sr.getLsbD 0 = true ∧ slotState.pending ≠ none := by decide

theorem witness_Jumps : plainState.pending = none ∧ slotState.pending ≠ none := by decide

theorem witness_Calls : plainState.pending = none ∧ slotState.pending ≠ none := by decide

theorem witness_SequentialAdvance : (Instr.add 0#4 1#4).isSlotIllegal = false := by decide

theorem witness_LoadControlRegisters :
    plainState.sr.getLsbD 30 = true ∧ userState.sr.getLsbD 30 = false ∧ userState.pending = none := by decide

/-- Both banks. -/
theorem witness_LoadOtherBank :
    ldcBankForm (.ldcR7Bank 1#4) = some (1#4, 7) ∧ plainState.sr.getLsbD 30 = true ∧
      plainState.sr.getLsbD 29 = false ∧ (start 0x60000000#32 []).sr.getLsbD 29 = true ∧
      userState.sr.getLsbD 30 = false ∧ userState.pending = none := by decide

/-- In privileged and in user mode, admitted and refused. -/
theorem witness_PopControlRegisters :
    (ldcLForm plainState (plainState.memRead (plainState.reg 1#4) .long) (.ldcLSr 1#4)).isSome = true ∧
      (ldcLForm userState (userState.memRead (userState.reg 1#4) .long) (.ldsLPr 1#4)).isSome = true ∧
      (Instr.ldcLSr 1#4).isPrivileged = true ∧ plainState.sr.getLsbD 30 = true ∧
      (Instr.ldsLPr 1#4).isPrivileged = false ∧ plainState.accessOk .read (plainState.reg 1#4) .long = true ∧
      plainState.accessOk .read (plainState.reg 3#4) .long = false := by decide

theorem witness_StoreControlRegisters :
    plainState.sr.getLsbD 30 = true ∧ userState.sr.getLsbD 30 = false ∧ userState.pending = none := by decide

theorem witness_StoreOtherBank :
    stcBankForm (.stcR7Bank 1#4) = some (7, 1#4) ∧ plainState.sr.getLsbD 30 = true ∧
      plainState.sr.getLsbD 29 = false ∧ (start 0x60000000#32 []).sr.getLsbD 29 = true ∧
      userState.sr.getLsbD 30 = false ∧ userState.pending = none := by decide

theorem witness_PushControlRegisters :
    stcLForm plainState (.stcLSr 1#4) = some (0x40000000#32, 1#4) ∧ stcLForm userState (.stsLPr 1#4) = some (0#32, 1#4) ∧
      (Instr.stcLSr 1#4).isPrivileged = true ∧ plainState.sr.getLsbD 30 = true ∧
      (Instr.stsLPr 1#4).isPrivileged = false ∧
      plainState.accessOk .write (plainState.preDec 1#4 .long) .long = true ∧
      plainState.accessOk .write (plainState.preDec 3#4 .long) .long = false := by decide

theorem witness_TrapaEntersTheHandler :
    plainState.pending = none ∧ plainState.sr.getLsbD 28 = false ∧ State.reset.pending = none ∧
      State.reset.sr.getLsbD 28 = true ∧ slotState.pending ≠ none := by decide

theorem witness_ReturnFromException :
    plainState.pending = none ∧ plainState.sr.getLsbD 30 = true ∧ userState.pending = none ∧
      userState.sr.getLsbD 30 = false ∧ slotState.pending ≠ none := by decide

/-- A state of the invariant that is not the reset state: memory and the last entry of the TLB are written. -/
theorem witness_StepKeepsInvariant :
    ({ plainState.memWrite 0x3000#32 .long 0x12345678#32 with
        tlb := [{ index := 31, way := 3, tag := 0#32, data := 0#32 }] } : State).Inv := by
  refine ⟨by decide, by decide, ?_, by unfold reservedClear; decide, by unfold reservedClear; decide, by decide⟩
  unfold State.tlbInRange
  decide

/-- Bytes of memory, at the reset address and directly beside a mapped register. -/
theorem witness_ResetValues :
    ctrlByte Platform.family 0xA0000000#32 = none ∧ ctrlByte Platform.family 0xFFFFFF83#32 = none ∧
      ctrlByte Platform.family 0xFFFFFF82#32 = some (.stbcr, 0) := by decide

/-- An instruction outside every list that completes, and one inside a list. -/
theorem witness_OnlyTheNamedInstructionsWrite :
    exec .nop plainState = .next plainState.advance ∧ (∀ e, plainState.advance ≠ plainState.raise e) ∧
      Instr.nop.writesT = false ∧ Instr.nop.writesSaved = false ∧ userState.sr.getLsbD 30 = false := by
  refine ⟨rfl, ?_, rfl, rfl, by decide⟩
  intro e h
  rw [State.raise_open plainState e (by decide)] at h
  have hsr : plainState.advance.sr = plainState.sr ||| Sr.entryBits := congrArg State.sr h
  exact absurd hsr (by decide)

theorem witness_UserModeCannotReachBankOne : userState.sr.getLsbD 30 = false ∧ userState.input.reset = none := by decide

/-- A TRAPA leaves user mode, an RTE enters it, and so does a reset on a platform that says so. -/
theorem witness_ModeChanges :
    (match step (userState.storeCode 0xC301#16) with
      | .next t => some (t.sr.getLsbD 30)
      | _ => none) = some true ∧ (userState.storeCode 0xC301#16).sr.getLsbD 30 = false ∧
    (match step (plainState.storeCode 0x002B#16) with
      | .next t => some (t.sr.getLsbD 30)
      | _ => none) = some false ∧ (plainState.storeCode 0x002B#16).sr.getLsbD 30 = true ∧
    plainState.platform.resetMd = true ∧ plainState.sr.getLsbD 28 = false ∧
    (match step { State.reset.storeCode 0xC301#16 with platform := { Platform.family with resetMd := false } } with
      | .next t => some (t.sr.getLsbD 30)
      | _ => none) = some false ∧ State.reset.sr.getLsbD 30 = true := by decide

end Sys2Proof.Tests
end

section
/-! The step function: which part of a step decides its outcome (00_scope.md R18), and the boundary at which the host
presents nothing (R17). -/

namespace Sys2Proof.Machine

/-- No reset comes and no request is accepted: the step runs the instruction at pc or waits in a power-down state. -/
theorem step_eq_runOrWait {s : State} (hreset : s.input.reset = none)
    (hrequest : ∀ r, s.input.request = some r → s.afterInput.accepts r = false) :
    step s = runOrWait s.afterInput := by
  unfold step
  rw [hreset]
  cases hr : s.input.request with
  | none => rfl
  | some r => simp [hrequest r hr]

theorem runOrWait_of_running {s : State} (hmode : s.mode = .running) : runOrWait s = runInstruction s := by
  simp [runOrWait, hmode]

theorem runInstruction_of_decode {s : State} {w : Half} {i : Instr} (hfetch : s.fetch = some w)
    (hdecode : decode w = .ok i) : runInstruction s = exec i s := by
  simp [runInstruction, hfetch, hdecode]

theorem State.input_of_no_inputs {s : State} (h : s.inputs = []) : s.input = HostInput.none := by
  simp [State.input, h]

/-- With an empty script of inputs, taking the input leaves the state as it is. -/
theorem State.afterInput_of_no_inputs {s : State} (h : s.inputs = []) : s.afterInput = s := by
  have hempty := State.input_of_no_inputs h
  cases s
  cases h
  simp [State.afterInput, hempty, HostInput.none]

end Sys2Proof.Machine

namespace Sys2Proof

open Sys2Proof.Machine

/-- Settles O8: the boundary leads to `runOrWait`, the running mode to `runInstruction`, the decoded word to `exec`. -/
theorem stepRunsTheDecodedInstruction : Obligations.StepRunsTheDecodedInstruction := by
  unfold Obligations.StepRunsTheDecodedInstruction
  constructor
  · intro s w i hreset hrequest hmode hfetch hdecode
    have hrunning : s.afterInput.mode = .running := by rw [State.afterInput_mode, hmode]
    calc step s = runOrWait s.afterInput := step_eq_runOrWait hreset hrequest
      _ = runInstruction s.afterInput := runOrWait_of_running hrunning
      _ = exec i s.afterInput := runInstruction_of_decode hfetch hdecode
  · intro s hinputs
    have hempty : s.input = HostInput.none := State.input_of_no_inputs hinputs
    exact ⟨State.afterInput_of_no_inputs hinputs, by rw [hempty]; rfl, by rw [hempty]; rfl⟩

end Sys2Proof
end

section
/-! What an instruction does as data: a script of changes and a place to go, and which of them the spec's lists allow to
an instruction. Two states show user mode the same view when they differ in bank 1, SSR and SPC alone (R59). -/

namespace Sys2Proof

/-- The instructions that load SR whole (R335, R348, R368). -/
def Instr.loadsSr : Instr → Bool
  | .ldcSr _ | .ldcLSr _ | .rte => true
  | _ => false

theorem Instr.loadsSr_iff (i : Instr) :
    i.loadsSr = true ↔ (∃ m, i = .ldcSr m) ∨ (∃ m, i = .ldcLSr m) ∨ i = .rte := by
  cases i <;> simp [Instr.loadsSr]

theorem Instr.isPrivileged_of_loadsSr {i : Instr} (h : i.loadsSr = true) : i.isPrivileged = true := by
  rcases i.loadsSr_iff.mp h with ⟨m, rfl⟩ | ⟨m, rfl⟩ | rfl <;> rfl

theorem Instr.lists_of_loadsSr {i : Instr} (h : i.loadsSr = true) :
    i.writesT = true ∧ i.writesS = true ∧ i.writesMQ = true := by
  rcases i.loadsSr_iff.mp h with ⟨m, rfl⟩ | ⟨m, rfl⟩ | rfl <;> exact ⟨rfl, rfl, rfl⟩

/-- An instruction outside a list that holds all the loads of SR is no load of SR. -/
theorem Instr.loadsSr_eq_false {i : Instr} {b : Bool} (hlist : i.loadsSr = true → b = true) (hb : b = false) :
    i.loadsSr = false :=
  Bool.eq_false_iff.mpr fun h => absurd (hb.symm.trans (hlist h)) (by decide)

end Sys2Proof

namespace Sys2Proof.Machine

/-- One change that an instruction makes on its way to the next one, with the value already computed: a named update
of the state, or an access to memory. -/
inductive Change where
  | reg (n : RegNum) (v : Word)
  | other (j : Fin 8) (v : Word)
  | flagT (b : Bool)
  | flagS (b : Bool)
  | flagQ (b : Bool)
  | flagM (b : Bool)
  | mac (v : BitVec 64)
  | mach (v : Word)
  | macl (v : Word)
  | pr (v : Word)
  | gbr (v : Word)
  | vbr (v : Word)
  | ssr (v : Word)
  | spc (v : Word)
  /-- LDC to SR. -/
  | sr (v : Word)
  /-- RTE's restoring of SR. -/
  | restoreSr
  | tlb
  | read (a : Word) (z : Size)
  | write (a : Word) (z : Size) (v : Word)

/-- The change made. -/
def Change.run : Change → State → State
  | .reg n v, s => s.setReg n v
  | .other j v, s => s.setOther j v
  | .flagT b, s => s.setT b
  | .flagS b, s => s.setS b
  | .flagQ b, s => s.setQ b
  | .flagM b, s => s.setM b
  | .mac v, s => s.setMac v
  | .mach v, s => s.setMach v
  | .macl v, s => s.setMacl v
  | .pr v, s => s.setPr v
  | .gbr v, s => s.setGbr v
  | .vbr v, s => s.setVbr v
  | .ssr v, s => putSsr s v
  | .spc v, s => s.setSpc v
  | .sr v, s => putSr s v
  | .restoreSr, s => s.setSr s.ssr
  | .tlb, s => s.loadTlb
  | .read a z, s => s.afterRead a z
  | .write a z v, s => s.memWrite a z v

/-- The instruction may make the change: it stands in the spec's list for what is changed, and it is privileged where
user mode cannot reach that (R26 to R34, R43, R44, R59). -/
def Change.allowed (i : Instr) : Change → Bool
  | .flagT _ => i.writesT
  | .flagS _ => i.writesS
  | .flagQ _ | .flagM _ => i.writesMQ
  | .mac _ | .mach _ | .macl _ => i.writesMac
  | .pr _ => i.writesPr
  | .gbr _ => i.writesGbr
  | .vbr _ => i.writesVbr && i.isPrivileged
  | .ssr _ | .spc _ => i.writesSaved && i.isPrivileged
  | .sr _ | .restoreSr => i.loadsSr
  | .other _ _ | .tlb => i.isPrivileged
  | .reg _ _ | .read _ _ | .write _ _ _ => true

/-- Where an instruction that completes goes. -/
inductive Next where
  /-- The following word, or the target after a delay slot (R41, R302). -/
  | advance
  /-- The same, into a power-down state (R372). -/
  | sleep
  | branch (target : Word)
  | delayed (target : Word)

/-- The next instruction selected. -/
def Next.run : Next → State → State
  | .advance, s => s.advance
  | .sleep, s => s.advance.powerDown
  | .branch target, s => s.branch target
  | .delayed target, s => s.delayedBranch target

/-- Only the instructions of R303 go anywhere but on. -/
def Next.allowed (i : Instr) : Next → Bool
  | .advance | .sleep => true
  | .branch _ | .delayed _ => i.isSlotIllegal

/-- All that a completing instruction does: its changes in order, then the selection of the next instruction. -/
structure Script where
  changes : List Change
  next : Next

/-- Changes made one after the other. -/
def Change.runAll (changes : List Change) (s : State) : State := changes.foldl (fun u o => o.run u) s

/-- The state after a script. -/
def Script.run (p : Script) (s : State) : State := p.next.run (Change.runAll p.changes s)

/-- Every part of the script is allowed to the instruction. -/
def Script.allowed (p : Script) (i : Instr) : Bool := p.changes.all (Change.allowed i) && p.next.allowed i

/-- The second state is the first, or the first is in user mode and the second differs from it in what user mode cannot
read: bank 1, SSR and SPC (R59). -/
inductive SameView (s : State) : State → Prop
  | refl : SameView s s
  | hidden (hu : s.md = false) (bank1 : Vector Word 8) (ssr spc : Word) : SameView s (s.withHidden bank1 ssr spc)

theorem physReg_ne_bank1 {sr : Word} (hu : Sr.md sr = false) (n : RegNum) (j : Fin 8) : physReg sr n ≠ .bank1 j := by
  unfold physReg
  split <;> simp [hu]

theorem State.withHidden_reg {s : State} (hu : s.md = false) (bank1 : Vector Word 8) (ssr spc : Word) (n : RegNum) :
    (s.withHidden bank1 ssr spc).reg n = s.reg n := by
  have hne := physReg_ne_bank1 (sr := s.sr) hu n
  unfold State.reg
  change Gpr.read { s.gpr with bank1 := bank1 } (physReg s.sr n) = _
  cases hp : physReg s.sr n with
  | bank1 j => exact absurd hp (hne j)
  | bank0 j => rfl
  | common j => rfl

section
variable {s s' : State} (h : SameView s s')
include h

theorem SameView.reg (n : RegNum) : s'.reg n = s.reg n := by
  cases h with
  | refl => rfl
  | hidden hu bank1 ssr spc => exact State.withHidden_reg hu bank1 ssr spc n

/-- What does not look at bank 1, SSR and SPC has one value in both states. -/
theorem SameView.value {α : Type} (f : State → α)
    (hf : ∀ (u : State) (b : Vector Word 8) (x y : Word), f (u.withHidden b x y) = f u) : f s' = f s := by
  cases h with
  | refl => rfl
  | hidden hu bank1 ssr spc => exact hf s bank1 ssr spc

theorem SameView.md : s'.md = s.md := h.value State.md fun _ _ _ _ => rfl
theorem SameView.t : s'.t = s.t := h.value State.t fun _ _ _ _ => rfl
theorem SameView.satS : s'.satS = s.satS := h.value State.satS fun _ _ _ _ => rfl
theorem SameView.q : s'.q = s.q := h.value State.q fun _ _ _ _ => rfl
theorem SameView.m : s'.m = s.m := h.value State.m fun _ _ _ _ => rfl
theorem SameView.gbr : s'.gbr = s.gbr := h.value State.gbr fun _ _ _ _ => rfl
theorem SameView.mac : s'.mac = s.mac := h.value State.mac fun _ _ _ _ => rfl
theorem SameView.mach : s'.mach = s.mach := h.value State.mach fun _ _ _ _ => rfl
theorem SameView.macl : s'.macl = s.macl := h.value State.macl fun _ _ _ _ => rfl
theorem SameView.pr : s'.pr = s.pr := h.value State.pr fun _ _ _ _ => rfl
theorem SameView.pc : s'.pc = s.pc := h.value State.pc fun _ _ _ _ => rfl
theorem SameView.pending : s'.pending = s.pending := h.value State.pending fun _ _ _ _ => rfl
theorem SameView.memRead (a : Word) (z : Size) : s'.memRead a z = s.memRead a z :=
  h.value (fun u => u.memRead a z) fun _ _ _ _ => by cases z <;> rfl
theorem SameView.accessOk (k : AccessKind) (a : Word) (z : Size) : s'.accessOk k a z = s.accessOk k a z :=
  h.value (fun u => u.accessOk k a z) fun _ _ _ _ => rfl
theorem SameView.pcOp : s'.pcOp = s.pcOp := h.value State.pcOp fun _ _ _ _ => rfl
theorem SameView.macSecond (z : Size) (m n : RegNum) : s'.macSecond z m n = s.macSecond z m n := by
  simp only [State.macSecond, State.postInc, h.reg]
theorem SameView.relTarget {w : Nat} (d : BitVec w) : s'.relTarget d = s.relTarget d := by
  simp only [State.relTarget, h.pc]
theorem SameView.dispReg (n : RegNum) (d : BitVec 4) (z : Size) : s'.dispReg n d z = s.dispReg n d z :=
  congrArg (dispAddr · d z) (h.reg n)
theorem SameView.dispGbr (d : BitVec 8) (z : Size) : s'.dispGbr d z = s.dispGbr d z :=
  congrArg (dispAddr · d z) h.gbr
theorem SameView.indexed (n : RegNum) : s'.indexed n = s.indexed n := congrArg₂ (· + ·) (h.reg n) (h.reg 0#4)
theorem SameView.indexedGbr : s'.indexedGbr = s.indexedGbr := congrArg₂ (· + ·) h.gbr (h.reg 0#4)

end

theorem State.afterRead_withHidden (s : State) (bank1 : Vector Word 8) (ssr spc : Word) (a : Word) (z : Size) :
    (s.withHidden bank1 ssr spc).afterRead a z = (s.afterRead a z).withHidden bank1 ssr spc := by
  cases hd : s.isDevice a with
  | true =>
    have hd' : (s.withHidden bank1 ssr spc).isDevice a = true := hd
    rw [State.afterRead, State.afterRead, if_pos hd, if_pos hd']
    rfl
  | false => rw [State.afterRead_memory s a z hd, State.afterRead_memory (s.withHidden bank1 ssr spc) a z hd]

theorem SameView.afterRead {s s' : State} (h : SameView s s') (a : Word) (z : Size) :
    SameView (s.afterRead a z) (s'.afterRead a z) := by
  cases h with
  | refl => exact .refl
  | hidden hu bank1 ssr spc =>
    rw [State.afterRead_withHidden]
    exact .hidden (by rw [State.md, State.afterRead_sr]; exact hu) bank1 ssr spc

/-- The changes of a multiply-accumulate, in the order of R235. -/
def macChanges (z : Size) (f : BitVec 64 → Bool → Word → Word → BitVec 64) (m n : RegNum) (s : State) : List Change :=
  let b := s.macSecond z m n
  let s₁ := s.afterRead (s.reg n) z
  let s₂ := s₁.afterRead b z
  [.read (s.reg n) z, .read b z, .reg n (s₂.postInc n z), .reg m (s₂.macSecond z m n + z.step),
    .mac (f s.mac s.satS (s.memRead (s.reg n) z) (s₁.memRead b z))]

theorem SameView.macChanges {s s' : State} (h : SameView s s') (z : Size)
    (f : BitVec 64 → Bool → Word → Word → BitVec 64) (m n : RegNum) : macChanges z f m n s' = macChanges z f m n s := by
  have h₁ : SameView (s.afterRead (s.reg n) z) (s'.afterRead (s.reg n) z) := h.afterRead _ _
  have h₂ := h₁.afterRead (s.macSecond z m n) z
  simp only [Machine.macChanges, State.postInc, h.reg, h.macSecond, h.mac, h.satS, h.memRead, h₁.memRead, h₂.reg,
    h₂.macSecond]

end Sys2Proof.Machine
end

section
/-! Every instruction as a script. `exec_follows` says it once for all 188, for one state and for two states with the
same view: both raise the same exception or both run the same allowed script. -/

namespace Sys2Proof.Machine

/-- The mode lets the instruction complete (R331). -/
def MayRun (i : Instr) (s : State) : Prop := i.isPrivileged = false ∨ s.md = true

/-- Both results are the same exception's entry, each from its state, or the same script run from each: one that the
instruction is allowed, in a mode that lets it complete. -/
def Follows (i : Instr) (s s' : State) (r r' : Result) : Prop :=
  (∃ e, r = .next (s.raise e) ∧ r' = .next (s'.raise e)) ∨
    ∃ p : Script, p.allowed i = true ∧ MayRun i s ∧ r = .next (p.run s) ∧ r' = .next (p.run s')

/-! ### The frames -/

theorem Follows.raises {i : Instr} {s s' : State} (e : Exc) :
    Follows i s s' (.next (s.raise e)) (.next (s'.raise e)) := .inl ⟨e, rfl, rfl⟩

/-- A script of changes, whose values are the same in both states, and a place to go. -/
theorem Follows.script {i : Instr} {s s' : State} (changes changes' : List Change) (c : Next) (hrun : MayRun i s)
    (hchanges : changes.all (Change.allowed i) = true) (hnext : c.allowed i = true) (hsame : changes' = changes) :
    Follows i s s' (.next (c.run (Change.runAll changes s))) (.next (c.run (Change.runAll changes' s'))) :=
  .inr ⟨⟨changes, c⟩, by simp [Script.allowed, hchanges, hnext], hrun, rfl, by rw [hsame]; rfl⟩

section
variable {i : Instr} {s s' : State} (h : SameView s s')
include h

theorem Follows.raiseIllegal : Follows i s s' (.next s.raiseIllegal) (.next s'.raiseIllegal) := by
  unfold State.raiseIllegal
  rw [h.pending]
  exact .raises _

/-- In user mode a privileged instruction raises in both states; else the states are one. -/
theorem Follows.privileged (rest : State → Result) (hrest : s.md = true → Follows i s s (rest s) (rest s)) :
    Follows i s s' (privileged s (rest s)) (privileged s' (rest s')) := by
  cases hm : s.md with
  | false =>
    rw [privileged_user s _ hm, privileged_user s' _ (h.md.trans hm)]
    exact .raiseIllegal h
  | true =>
    cases h with
    | refl => rw [privileged_md s _ hm]; exact hrest hm
    | hidden hu => exact absurd (hu.symm.trans hm) (by decide)

theorem Follows.outsideSlot {rest rest' : Result} (hrest : Follows i s s' rest rest') :
    Follows i s s' (outsideSlot s rest) (outsideSlot s' rest') := by
  by_cases hp : s.pending = none
  · rw [outsideSlot_none s _ hp, outsideSlot_none s' _ (h.pending.trans hp)]
    exact hrest
  · rw [outsideSlot_some s _ hp, outsideSlot_some s' _ (h.pending ▸ hp)]
    exact .raises _

theorem Follows.checked {k : AccessKind} {a a' : Word} {z : Size} {rest rest' : Result} (ha : a' = a)
    (hrest : Follows i s s' rest rest') : Follows i s s' (checked s k a z rest) (checked s' k a' z rest') := by
  subst ha
  cases hk : s.accessOk k a' z with
  | true => rw [checked_ok _ _ _ _ _ hk, checked_ok _ _ _ _ _ ((h.accessOk k a' z).trans hk)]; exact hrest
  | false =>
    rw [checked_refused _ _ _ _ _ hk, checked_refused _ _ _ _ _ ((h.accessOk k a' z).trans hk)]
    exact .raises _

end

/-! ### The shared shapes: both states follow one script where the operands have one value -/

@[simp] theorem Change.allowed_reg (i : Instr) (n : RegNum) (v : Word) : Change.allowed i (.reg n v) = true := rfl
@[simp] theorem Change.allowed_read (i : Instr) (a : Word) (z : Size) : Change.allowed i (.read a z) = true := rfl
@[simp] theorem Change.allowed_write (i : Instr) (a : Word) (z : Size) (v : Word) :
    Change.allowed i (.write a z v) = true := rfl

section
variable {i : Instr} {s s' : State} (hrun : MayRun i s)
include hrun

theorem Follows.putReg {n : RegNum} {v v' : Word} (hv : v' = v) : Follows i s s' (putReg n v s) (putReg n v' s') :=
  .script [.reg n v] [.reg n v'] .advance hrun rfl rfl (by rw [hv])

theorem Follows.storeControl {n : RegNum} {v v' : Word} (hv : v' = v) :
    Follows i s s' (storeControl v n s) (storeControl v' n s') := .putReg hrun hv

theorem Follows.putRegT {n : RegNum} {v v' : Word} {b b' : Bool} (ht : i.writesT = true) (hv : v' = v) (hb : b' = b) :
    Follows i s s' (putRegT n v b s) (putRegT n v' b' s') :=
  .script [.reg n v, .flagT b] [.reg n v', .flagT b'] .advance hrun (by simp [Change.allowed, ht]) rfl (by rw [hv, hb])

theorem Follows.putT {b b' : Bool} (ht : i.writesT = true) (hb : b' = b) : Follows i s s' (putT b s) (putT b' s') :=
  .script [.flagT b] [.flagT b'] .advance hrun (by simp [Change.allowed, ht]) rfl (by rw [hb])

variable (h : SameView s s')
include h

theorem Follows.load {z : Size} {a a' : Word} {n : RegNum} (ha : a' = a) :
    Follows i s s' (load z a n s) (load z a' n s') :=
  .checked h ha <| .script [.read a z, .reg n (z.extend (s.memRead a z))]
    [.read a' z, .reg n (z.extend (s'.memRead a' z))] .advance hrun rfl rfl (by rw [h.memRead, ha])

theorem Follows.loadPostInc {z : Size} {m n : RegNum} :
    Follows i s s' (loadPostInc z m n s) (loadPostInc z m n s') :=
  .checked h (h.reg m) <| .script
    [.read (s.reg m) z, .reg m (s.postInc m z), .reg n (z.extend (s.memRead (s.reg m) z))]
    [.read (s'.reg m) z, .reg m (s'.postInc m z), .reg n (z.extend (s'.memRead (s'.reg m) z))]
    .advance hrun rfl rfl (by simp only [State.postInc, h.memRead, h.reg])

theorem Follows.store {z : Size} {a a' : Word} {m : RegNum} (ha : a' = a) :
    Follows i s s' (store z a m s) (store z a' m s') :=
  .checked h ha <| .script [.write a z (s.reg m)] [.write a' z (s'.reg m)] .advance hrun rfl rfl (by rw [h.reg, ha])

theorem Follows.storePreDec {z : Size} {m n : RegNum} :
    Follows i s s' (storePreDec z m n s) (storePreDec z m n s') :=
  .checked h (congrArg (· - z.step) (h.reg n)) <| .script
    [.write (s.preDec n z) z (s.reg m), .reg n (s.preDec n z)]
    [.write (s'.preDec n z) z (s'.reg m), .reg n (s'.preDec n z)]
    .advance hrun rfl rfl (by simp only [State.preDec, h.reg])

theorem Follows.storeControlMem {n : RegNum} {v v' : Word} (hv : v' = v) :
    Follows i s s' (storeControlMem v n s) (storeControlMem v' n s') :=
  .checked h (congrArg (· - Size.long.step) (h.reg n)) <| .script
    [.write (s.preDec n .long) .long v, .reg n (s.preDec n .long)]
    [.write (s'.preDec n .long) .long v', .reg n (s'.preDec n .long)]
    .advance hrun rfl rfl (by simp only [State.preDec, h.reg, hv])

theorem Follows.loadControl (change : Word → Change) {m : RegNum} (hchange : ∀ v, (change v).allowed i = true) :
    Follows i s s' (loadControl (fun u v => (change v).run u) m s) (loadControl (fun u v => (change v).run u) m s') :=
  .script [change (s.reg m)] [change (s'.reg m)] .advance hrun (by simp [hchange]) rfl (by rw [h.reg])

theorem Follows.loadControlMem (change : Word → Change) {m : RegNum} (hchange : ∀ v, (change v).allowed i = true) :
    Follows i s s' (loadControlMem (fun u v => (change v).run u) m s)
      (loadControlMem (fun u v => (change v).run u) m s') :=
  .checked h (h.reg m) <| .script
    [.read (s.reg m) .long, .reg m (s.postInc m .long), change (s.memRead (s.reg m) .long)]
    [.read (s'.reg m) .long, .reg m (s'.postInc m .long), change (s'.memRead (s'.reg m) .long)]
    .advance hrun (by simp [hchange]) rfl (by simp only [State.postInc, h.memRead, h.reg])

/-- A read-modify-write of a byte, and the changes that depend on the byte. -/
theorem Follows.modifyByte {a a' : Word} {f : Word → Word} {after : Word → State → State} (changes : Word → List Change)
    (hchanges : ∀ v u, after v u = Change.runAll (changes v) u) (ha : a' = a)
    (hall : ∀ v, (changes v).all (Change.allowed i) = true) :
    Follows i s s' (modifyByte a f after s) (modifyByte a' f after s') := by
  obtain rfl : after = fun v u => Change.runAll (changes v) u := funext₂ hchanges
  exact .checked h ha <| .checked h ha <| .script
    (.read a .byte :: .write a .byte (f (s.memRead a .byte)) :: changes (s.memRead a .byte))
    (.read a' .byte :: .write a' .byte (f (s'.memRead a' .byte)) :: changes (s'.memRead a' .byte))
    .advance hrun (by simp [hall]) rfl (by rw [h.memRead, ha])

theorem Follows.multiplyAccumulate {z : Size} {f : BitVec 64 → Bool → Word → Word → BitVec 64} {m n : RegNum}
    (hmac : i.writesMac = true) :
    Follows i s s' (multiplyAccumulate z f m n s) (multiplyAccumulate z f m n s') :=
  .checked h (h.reg n) <| .checked h (h.macSecond z m n) <|
    .script (macChanges z f m n s) (macChanges z f m n s') .advance hrun
      (by simp [macChanges, Change.allowed, hmac]) rfl (h.macChanges z f m n)

end

section
variable {i : Instr} {s s' : State} (h : SameView s s') (hslot : i.isSlotIllegal = true) (hrun : MayRun i s)
include h hslot hrun

theorem Follows.branchIf {c c' : Bool} {disp : BitVec 8} (hc : c' = c) :
    Follows i s s' (branchIf c disp s) (branchIf c' disp s') := by
  subst hc
  refine .outsideSlot h ?_
  rw [h.relTarget]
  cases c' with
  | true => exact .script [] [] (.branch _) hrun rfl hslot rfl
  | false => exact .script [] [] .advance hrun rfl rfl rfl

theorem Follows.delayedBranchIf {c c' : Bool} {disp : BitVec 8} (hc : c' = c) :
    Follows i s s' (delayedBranchIf c disp s) (delayedBranchIf c' disp s') := by
  subst hc
  refine .outsideSlot h ?_
  rw [h.relTarget]
  cases c' with
  | true => exact .script [] [] (.delayed _) hrun rfl hslot rfl
  | false => exact .script [] [] .advance hrun rfl rfl rfl

theorem Follows.jump {target target' : Word} (ht : target' = target) :
    Follows i s s' (jump target s) (jump target' s') := by
  subst ht
  exact .outsideSlot h <| .script [] [] (.delayed _) hrun rfl hslot rfl

theorem Follows.call {target target' : Word} (hpr : i.writesPr = true) (ht : target' = target) :
    Follows i s s' (call target s) (call target' s') := by
  subst ht
  exact .outsideSlot h <| .script [.pr s.returnAddress] [.pr s'.returnAddress] (.delayed _) hrun
    (by simp [Change.allowed, hpr]) hslot (by simp only [State.returnAddress, h.pc])

end

/-! ### Every instruction -/

/-- Every instruction follows one script from two states with the same view: a line for each shape of meaning. Where a
line begins with `change`, the unifier is shown the instruction's own meaning; it does not find it through `exec`. -/
theorem exec_follows (i : Instr) {s s' : State} (h : SameView s s') : Follows i s s' (exec i s) (exec i s') := by
  cases i with
  | movImm => exact .putReg (.inl rfl) rfl
  | mova => exact .putReg (.inl rfl) (by simp only [State.pcLong, h.pcOp])
  | movt => exact .putReg (.inl rfl) (by rw [h.t])
  | mov | extsB | extsW | extuB | extuW | neg | not | swapB | swapW | xtrct | add | addImm | sub | and | andImm | or
  | orImm | xor | xorImm | shad | shld | shll2 | shlr2 | shll8 | shlr8 | shll16 | shlr16 =>
    exact .putReg (.inl rfl) (by simp only [h.reg])
  | addc | negc | subc | rotcl | rotcr =>
    exact .putRegT (.inl rfl) rfl (by simp only [h.reg, h.t]) (by simp only [h.reg, h.t])
  | addv | subv | dt | rotl | rotr | shal | shar | shll | shlr =>
    exact .putRegT (.inl rfl) rfl (by simp only [h.reg]) (by simp only [h.reg])
  | cmpEqImm | cmpEq | cmpHs | cmpGe | cmpHi | cmpGt | cmpPz | cmpPl | cmpStr | tst | tstImm =>
    exact .putT (.inl rfl) rfl (by simp only [h.reg])
  | movWLoadPc => exact .load (.inl rfl) h (by simp only [State.pcWord, h.pcOp])
  | movLLoadPc => exact .load (.inl rfl) h (by simp only [State.pcLong, h.pcOp])
  | movBLoad | movWLoad | movLLoad => exact .load (.inl rfl) h (h.reg _)
  | movBLoadDisp | movWLoadDisp | movLLoadDisp => exact .load (.inl rfl) h (h.dispReg _ _ _)
  | movBLoadIdx | movWLoadIdx | movLLoadIdx => exact .load (.inl rfl) h (h.indexed _)
  | movBLoadGbr | movWLoadGbr | movLLoadGbr => exact .load (.inl rfl) h (h.dispGbr _ _)
  | movBPostInc | movWPostInc | movLPostInc => exact .loadPostInc (.inl rfl) h
  | movBStore | movWStore | movLStore => exact .store (.inl rfl) h (h.reg _)
  | movBStoreDisp | movWStoreDisp | movLStoreDisp => exact .store (.inl rfl) h (h.dispReg _ _ _)
  | movBStoreIdx | movWStoreIdx | movLStoreIdx => exact .store (.inl rfl) h (h.indexed _)
  | movBStoreGbr | movWStoreGbr | movLStoreGbr => exact .store (.inl rfl) h (h.dispGbr _ _)
  | movBPreDec | movWPreDec | movLPreDec => exact .storePreDec (.inl rfl) h
  | andB imm =>
    change Follows _ s s' (execAndB imm s) (execAndB imm s')
    exact .modifyByte (.inl rfl) h (fun _ => []) (fun _ _ => rfl) h.indexedGbr fun _ => rfl
  | orB imm =>
    change Follows _ s s' (execOrB imm s) (execOrB imm s')
    exact .modifyByte (.inl rfl) h (fun _ => []) (fun _ _ => rfl) h.indexedGbr fun _ => rfl
  | xorB imm =>
    change Follows _ s s' (execXorB imm s) (execXorB imm s')
    exact .modifyByte (.inl rfl) h (fun _ => []) (fun _ _ => rfl) h.indexedGbr fun _ => rfl
  | tasB n =>
    change Follows _ s s' (execTasB n s) (execTasB n s')
    exact .modifyByte (.inl rfl) h (fun v => [.flagT (isZero v)]) (fun _ _ => rfl) (h.reg n) fun _ => rfl
  | tstB imm =>
    exact .checked h h.indexedGbr <| .script
      [.read s.indexedGbr .byte, .flagT (isZero (s.memRead s.indexedGbr .byte &&& zext8 imm))]
      [.read s'.indexedGbr .byte, .flagT (isZero (s'.memRead s'.indexedGbr .byte &&& zext8 imm))]
      .advance (.inl rfl) rfl rfl (by rw [h.memRead, h.indexedGbr])
  | pref | nop => exact .script [] [] .advance (.inl rfl) rfl rfl rfl
  | div1 m n =>
    change Follows _ s s' (execDiv1 m n s) (execDiv1 m n s')
    unfold execDiv1
    simp only [h.reg, h.t, h.q, h.m]
    exact .script [.reg n _, .flagQ _, .flagT _] [.reg n _, .flagQ _, .flagT _] .advance (.inl rfl) rfl rfl rfl
  | div0s m n =>
    exact .script [.flagQ (msb (s.reg n)), .flagM (msb (s.reg m)), .flagT (msb (s.reg m) ^^ msb (s.reg n))]
      [.flagQ (msb (s'.reg n)), .flagM (msb (s'.reg m)), .flagT (msb (s'.reg m) ^^ msb (s'.reg n))]
      .advance (.inl rfl) rfl rfl (by simp only [h.reg])
  | div0u =>
    exact .script [.flagQ false, .flagM false, .flagT false] [.flagQ false, .flagM false, .flagT false]
      .advance (.inl rfl) rfl rfl rfl
  | dmulsL m n =>
    exact .script [.mac (mulSigned (s.reg n) (s.reg m))] [.mac _] .advance (.inl rfl) rfl rfl (by simp only [h.reg])
  | dmuluL m n =>
    exact .script [.mac (mulUnsigned (s.reg n) (s.reg m))] [.mac _] .advance (.inl rfl) rfl rfl (by simp only [h.reg])
  | mulL m n => exact .script [.macl (s.reg n * s.reg m)] [.macl _] .advance (.inl rfl) rfl rfl (by simp only [h.reg])
  | mulsW m n =>
    exact .script [.macl (BitVec.ofInt 32 (mulWords (s.reg n) (s.reg m)))] [.macl _] .advance (.inl rfl) rfl rfl
      (by simp only [h.reg])
  | muluW m n =>
    exact .script [.macl ((s.reg n &&& 0xFFFF#32) * (s.reg m &&& 0xFFFF#32))] [.macl _] .advance (.inl rfl) rfl rfl
      (by simp only [h.reg])
  | macL | macW => exact .multiplyAccumulate (.inl rfl) h rfl
  | clrmac => exact .script [.mac 0#64] [.mac 0#64] .advance (.inl rfl) rfl rfl rfl
  | clrs => exact .script [.flagS false] [.flagS false] .advance (.inl rfl) rfl rfl rfl
  | sets => exact .script [.flagS true] [.flagS true] .advance (.inl rfl) rfl rfl rfl
  | clrt | sett => exact .putT (.inl rfl) rfl rfl
  | bf | bt => exact .branchIf h rfl (.inl rfl) (by rw [h.t])
  | bfS | btS => exact .delayedBranchIf h rfl (.inl rfl) (by rw [h.t])
  | bra => exact .jump h rfl (.inl rfl) (h.relTarget _)
  | braf => exact .jump h rfl (.inl rfl) (by simp only [State.farTarget, h.pc, h.reg])
  | jmp => exact .jump h rfl (.inl rfl) (h.reg _)
  | rts => exact .jump h rfl (.inl rfl) h.pr
  | bsr => exact .call h rfl (.inl rfl) rfl (h.relTarget _)
  | bsrf => exact .call h rfl (.inl rfl) rfl (by simp only [State.farTarget, h.pc, h.reg])
  | jsr => exact .call h rfl (.inl rfl) rfl (h.reg _)
  | ldcGbr => exact .loadControl (.inl rfl) h .gbr fun _ => rfl
  | ldsMach => exact .loadControl (.inl rfl) h .mach fun _ => rfl
  | ldsMacl => exact .loadControl (.inl rfl) h .macl fun _ => rfl
  | ldsPr => exact .loadControl (.inl rfl) h .pr fun _ => rfl
  | ldcLGbr => exact .loadControlMem (.inl rfl) h .gbr fun _ => rfl
  | ldsLMach => exact .loadControlMem (.inl rfl) h .mach fun _ => rfl
  | ldsLMacl => exact .loadControlMem (.inl rfl) h .macl fun _ => rfl
  | ldsLPr => exact .loadControlMem (.inl rfl) h .pr fun _ => rfl
  | ldcSr => exact .privileged h _ fun hm => .loadControl (.inr hm) .refl .sr fun _ => rfl
  | ldcVbr => exact .privileged h _ fun hm => .loadControl (.inr hm) .refl .vbr fun _ => rfl
  | ldcSsr => exact .privileged h _ fun hm => .loadControl (.inr hm) .refl .ssr fun _ => rfl
  | ldcSpc => exact .privileged h _ fun hm => .loadControl (.inr hm) .refl .spc fun _ => rfl
  | ldcR0Bank | ldcR1Bank | ldcR2Bank | ldcR3Bank | ldcR4Bank | ldcR5Bank | ldcR6Bank | ldcR7Bank =>
    exact .privileged h _ fun hm => .loadControl (.inr hm) .refl (.other _) fun _ => rfl
  | ldcLSr => exact .privileged h _ fun hm => .loadControlMem (.inr hm) .refl .sr fun _ => rfl
  | ldcLVbr => exact .privileged h _ fun hm => .loadControlMem (.inr hm) .refl .vbr fun _ => rfl
  | ldcLSsr => exact .privileged h _ fun hm => .loadControlMem (.inr hm) .refl .ssr fun _ => rfl
  | ldcLSpc => exact .privileged h _ fun hm => .loadControlMem (.inr hm) .refl .spc fun _ => rfl
  | ldcLR0Bank | ldcLR1Bank | ldcLR2Bank | ldcLR3Bank | ldcLR4Bank | ldcLR5Bank | ldcLR6Bank | ldcLR7Bank =>
    exact .privileged h _ fun hm => .loadControlMem (.inr hm) .refl (.other _) fun _ => rfl
  | stcGbr => exact .storeControl (.inl rfl) h.gbr
  | stsMach => exact .storeControl (.inl rfl) h.mach
  | stsMacl => exact .storeControl (.inl rfl) h.macl
  | stsPr => exact .storeControl (.inl rfl) h.pr
  | stcLGbr => exact .storeControlMem (.inl rfl) h h.gbr
  | stsLMach => exact .storeControlMem (.inl rfl) h h.mach
  | stsLMacl => exact .storeControlMem (.inl rfl) h h.macl
  | stsLPr => exact .storeControlMem (.inl rfl) h h.pr
  | stcSr n => exact .privileged h (fun u => storeControl u.sr n u) fun hm => .storeControl (.inr hm) rfl
  | stcVbr n => exact .privileged h (fun u => storeControl u.vbr n u) fun hm => .storeControl (.inr hm) rfl
  | stcSsr n => exact .privileged h (fun u => storeControl u.ssr n u) fun hm => .storeControl (.inr hm) rfl
  | stcSpc n => exact .privileged h (fun u => storeControl u.spc n u) fun hm => .storeControl (.inr hm) rfl
  | stcR0Bank n | stcR1Bank n | stcR2Bank n | stcR3Bank n | stcR4Bank n | stcR5Bank n | stcR6Bank n | stcR7Bank n =>
    exact .privileged h (fun u => storeControl (u.other _) n u) fun hm => .storeControl (.inr hm) rfl
  | stcLSr n => exact .privileged h (fun u => storeControlMem u.sr n u) fun hm => .storeControlMem (.inr hm) .refl rfl
  | stcLVbr n => exact .privileged h (fun u => storeControlMem u.vbr n u) fun hm => .storeControlMem (.inr hm) .refl rfl
  | stcLSsr n => exact .privileged h (fun u => storeControlMem u.ssr n u) fun hm => .storeControlMem (.inr hm) .refl rfl
  | stcLSpc n => exact .privileged h (fun u => storeControlMem u.spc n u) fun hm => .storeControlMem (.inr hm) .refl rfl
  | stcLR0Bank n | stcLR1Bank n | stcLR2Bank n | stcLR3Bank n | stcLR4Bank n | stcLR5Bank n | stcLR6Bank n
  | stcLR7Bank n =>
    exact .privileged h (fun u => storeControlMem (u.other _) n u) fun hm => .storeControlMem (.inr hm) .refl rfl
  | rte =>
    exact .outsideSlot h <| .privileged h (fun u => .next u.returnFromException) fun hm =>
      .script [.restoreSr] [.restoreSr] (.delayed s.spc) (.inr hm) rfl rfl rfl
  | ldtlb =>
    exact .privileged h (fun u => .next u.loadTlb.advance) fun hm =>
      .script [.tlb] [.tlb] .advance (.inr hm) rfl rfl rfl
  | sleep =>
    exact .privileged h (fun u => .next u.advance.powerDown) fun hm =>
      .script [] [] .sleep (.inr hm) rfl rfl rfl
  | trapa imm => exact .outsideSlot h (.raises _)

end Sys2Proof.Machine
end

section
/-! What a script leaves unchanged, by the lists of 10_state.md R26 to R34, R43 and R44, and how it advances (R41). -/

namespace Sys2Proof.Machine

/-- What an instruction can answer: an exception's entry, or the end of a script that it is allowed, in a mode that lets
it complete. -/
theorem exec_answers (i : Instr) (s : State) :
    (∃ e, exec i s = .next (s.raise e)) ∨
      ∃ p : Script, p.allowed i = true ∧ MayRun i s ∧ exec i s = .next (p.run s) := by
  rcases exec_follows i (SameView.refl (s := s)) with ⟨e, hraise, -⟩ | ⟨p, hp, hrun, hscript, -⟩
  · exact .inl ⟨e, hraise⟩
  · exact .inr ⟨p, hp, hrun, hscript⟩

/-! ### What a script keeps -/

theorem Script.allowed_iff (p : Script) (i : Instr) :
    p.allowed i = true ↔ (∀ o ∈ p.changes, Change.allowed i o = true) ∧ p.next.allowed i = true := by
  simp [Script.allowed]

/-- What every change of a list keeps, the list keeps. -/
theorem Change.runAll_preserves {P : State → Prop} (changes : List Change)
    (hchanges : ∀ o ∈ changes, ∀ u, P u → P (o.run u)) (s : State) (hs : P s) : P (Change.runAll changes s) := by
  induction changes generalizing s with
  | nil => exact hs
  | cons o rest ih => exact ih (fun o' ho' => hchanges o' (by simp [ho'])) (o.run s) (hchanges o (by simp) s hs)

/-- The selection of the next instruction changes pc, pending and mode alone. -/
theorem Next.run_eq (c : Next) (s : State) :
    ∃ pc pending mode, c.run s = { s with pc := pc, pending := pending, mode := mode } := by
  cases c <;> exact ⟨_, _, _, rfl⟩

/-- A view of the state that no allowed change touches, and that sees nothing of pc, pending and mode, is the same after
a script. -/
theorem Script.run_keeps {α : Type} (f : State → α) {p : Script} {i : Instr} (hp : p.allowed i = true)
    (hnext : ∀ (u : State) pc pending mode, f { u with pc := pc, pending := pending, mode := mode } = f u)
    (hchange : ∀ o, Change.allowed i o = true → ∀ u, f (o.run u) = f u) (s : State) : f (p.run s) = f s := by
  obtain ⟨hchanges, -⟩ := (p.allowed_iff i).mp hp
  obtain ⟨pc, pending, mode, heq⟩ := p.next.run_eq (Change.runAll p.changes s)
  rw [Script.run, heq, hnext]
  exact Change.runAll_preserves (P := fun u => f u = f s) p.changes
    (fun o ho u hu => (hchange o (hchanges o ho) u).trans hu) s rfl

/-! ### What a change keeps -/

section
variable (o : Change) (s : State)

theorem Change.run_pc : (o.run s).pc = s.pc := by
  cases o with
  | read a z => exact s.afterRead_pc a z
  | write a z v => exact s.memWrite_pc a z v
  | _ => rfl

theorem Change.run_pending : (o.run s).pending = s.pending := by
  cases o with
  | read a z => exact s.afterRead_pending a z
  | write a z v => exact s.memWrite_pending a z v
  | _ => rfl

theorem Change.run_mode : (o.run s).mode = s.mode := by
  cases o with
  | read a z => exact s.afterRead_mode a z
  | write a z v => exact s.memWrite_mode a z v
  | _ => rfl

theorem Change.runAll_pending (changes : List Change) : (Change.runAll changes s).pending = s.pending :=
  Change.runAll_preserves (P := fun u => u.pending = s.pending) changes
    (fun o _ u hu => (o.run_pending u).trans hu) s rfl

theorem Change.runAll_pc (changes : List Change) : (Change.runAll changes s).pc = s.pc :=
  Change.runAll_preserves (P := fun u => u.pc = s.pc) changes (fun o _ u hu => (o.run_pc u).trans hu) s rfl

theorem Change.runAll_mode (changes : List Change) : (Change.runAll changes s).mode = s.mode :=
  Change.runAll_preserves (P := fun u => u.mode = s.mode) changes (fun o _ u hu => (o.run_mode u).trans hu) s rfl

variable {o} {i : Instr} (ho : Change.allowed i o = true)
include ho

theorem Change.run_mac (hi : i.writesMac = false) : (o.run s).mach = s.mach ∧ (o.run s).macl = s.macl := by
  cases o with
  | mac | mach | macl => exact absurd (hi.symm.trans ho) (by decide)
  | read a z => exact ⟨s.afterRead_mach a z, s.afterRead_macl a z⟩
  | write a z v => exact ⟨s.memWrite_mach a z v, s.memWrite_macl a z v⟩
  | _ => exact ⟨rfl, rfl⟩

theorem Change.run_pr (hi : i.writesPr = false) : (o.run s).pr = s.pr := by
  cases o with
  | pr => exact absurd (hi.symm.trans ho) (by decide)
  | read a z => exact s.afterRead_pr a z
  | write a z v => exact s.memWrite_pr a z v
  | _ => rfl

theorem Change.run_gbr (hi : i.writesGbr = false) : (o.run s).gbr = s.gbr := by
  cases o with
  | gbr => exact absurd (hi.symm.trans ho) (by decide)
  | read a z => exact s.afterRead_gbr a z
  | write a z v => exact s.memWrite_gbr a z v
  | _ => rfl

theorem Change.run_vbr (hi : (i.writesVbr && i.isPrivileged) = false) : (o.run s).vbr = s.vbr := by
  cases o with
  | vbr => exact absurd (hi.symm.trans ho) (by decide)
  | read a z => exact s.afterRead_vbr a z
  | write a z v => exact s.memWrite_vbr a z v
  | _ => rfl

theorem Change.run_saved (hi : (i.writesSaved && i.isPrivileged) = false) :
    (o.run s).ssr = s.ssr ∧ (o.run s).spc = s.spc := by
  cases o with
  | ssr | spc => exact absurd (hi.symm.trans ho) (by decide)
  | read a z => exact ⟨s.afterRead_ssr a z, s.afterRead_spc a z⟩
  | write a z v => exact ⟨s.memWrite_ssr a z v, s.memWrite_spc a z v⟩
  | _ => exact ⟨rfl, rfl⟩

/-- A bit of SR changes only where the instruction loads SR whole or stands in the list of that bit. -/
theorem Change.run_srBit {j : Nat} (hj : j < 32) (hload : i.loadsSr = false) (ht : j = 0 → i.writesT = false)
    (hs : j = 1 → i.writesS = false) (hmq : j = 8 ∨ j = 9 → i.writesMQ = false) :
    (o.run s).sr.getLsbD j = s.sr.getLsbD j := by
  cases o with
  | sr | restoreSr => exact absurd (hload.symm.trans ho) (by decide)
  | flagT b =>
    refine (setBit_getLsbD s.sr 0 j b hj).trans (if_neg fun h => ?_)
    exact absurd ((ht h).symm.trans ho) (by decide)
  | flagS b =>
    refine (setBit_getLsbD s.sr 1 j b hj).trans (if_neg fun h => ?_)
    exact absurd ((hs h).symm.trans ho) (by decide)
  | flagQ b =>
    refine (setBit_getLsbD s.sr 8 j b hj).trans (if_neg fun h => ?_)
    exact absurd ((hmq (.inl h)).symm.trans ho) (by decide)
  | flagM b =>
    refine (setBit_getLsbD s.sr 9 j b hj).trans (if_neg fun h => ?_)
    exact absurd ((hmq (.inr h)).symm.trans ho) (by decide)
  | read a z => rw [Change.run, State.afterRead_sr]
  | write a z v => rw [Change.run, State.memWrite_sr]
  | _ => rfl

end

section
variable {p : Script} {i : Instr} (hp : p.allowed i = true) (s : State)
include hp

theorem Script.run_srBit {j : Nat} (hj : j < 32) (hload : i.loadsSr = false) (ht : j = 0 → i.writesT = false)
    (hs : j = 1 → i.writesS = false) (hmq : j = 8 ∨ j = 9 → i.writesMQ = false) :
    (p.run s).sr.getLsbD j = s.sr.getLsbD j :=
  Script.run_keeps (fun u => u.sr.getLsbD j) hp (fun _ _ _ _ => rfl)
    (fun _ ho u => Change.run_srBit u ho hj hload ht hs hmq) s

/-- Only an instruction that loads SR whole leaves the mode with another value of MD. -/
theorem Script.run_md (hload : i.loadsSr = false) : (p.run s).md = s.md :=
  Script.run_srBit hp s (j := 30) (by decide) hload (by simp) (by simp) (by simp)

theorem Script.run_mac (hi : i.writesMac = false) : (p.run s).mach = s.mach ∧ (p.run s).macl = s.macl :=
  ⟨Script.run_keeps State.mach hp (fun _ _ _ _ => rfl) (fun _ ho u => (Change.run_mac u ho hi).1) s,
    Script.run_keeps State.macl hp (fun _ _ _ _ => rfl) (fun _ ho u => (Change.run_mac u ho hi).2) s⟩

theorem Script.run_pr (hi : i.writesPr = false) : (p.run s).pr = s.pr :=
  Script.run_keeps State.pr hp (fun _ _ _ _ => rfl) (fun _ ho u => Change.run_pr u ho hi) s

theorem Script.run_gbr (hi : i.writesGbr = false) : (p.run s).gbr = s.gbr :=
  Script.run_keeps State.gbr hp (fun _ _ _ _ => rfl) (fun _ ho u => Change.run_gbr u ho hi) s

theorem Script.run_vbr (hi : (i.writesVbr && i.isPrivileged) = false) : (p.run s).vbr = s.vbr :=
  Script.run_keeps State.vbr hp (fun _ _ _ _ => rfl) (fun _ ho u => Change.run_vbr u ho hi) s

theorem Script.run_saved (hi : (i.writesSaved && i.isPrivileged) = false) :
    (p.run s).ssr = s.ssr ∧ (p.run s).spc = s.spc :=
  ⟨Script.run_keeps State.ssr hp (fun _ _ _ _ => rfl) (fun _ ho u => (Change.run_saved u ho hi).1) s,
    Script.run_keeps State.spc hp (fun _ _ _ _ => rfl) (fun _ ho u => (Change.run_saved u ho hi).2) s⟩

/-- An instruction that may not go elsewhere advances (R41, R302). -/
theorem Script.run_advanced (hi : i.isSlotIllegal = false) : Advanced s (p.run s) := by
  obtain ⟨-, hnext⟩ := (p.allowed_iff i).mp hp
  have hpc := Change.runAll_pc s p.changes
  have hpending := Change.runAll_pending s p.changes
  obtain ⟨changes, c⟩ := p
  cases c with
  | advance | sleep => exact ⟨congrArg₂ (fun x y => x.getD (y + 2#32)) hpending hpc, rfl⟩
  | branch | delayed => exact absurd (hi.symm.trans hnext) (by decide)

end

theorem MayRun.unprivileged {i : Instr} {s : State} (h : MayRun i s) (hu : s.md = false) : i.isPrivileged = false :=
  h.resolve_right (by simp [hu])

/-- What lies outside M, Q, S and T is the same where every bit of it is. -/
theorem and_system_bits_eq {v w : Word}
    (h : ∀ j < 32, j ≠ 0 → j ≠ 1 → ¬(j = 8 ∨ j = 9) → v.getLsbD j = w.getLsbD j) :
    v &&& 0xFFFFFCFC#32 = w &&& 0xFFFFFCFC#32 := by
  refine BitVec.eq_of_getLsbD_eq fun j hj => ?_
  rw [BitVec.getLsbD_and, BitVec.getLsbD_and]
  by_cases hbit : (0xFFFFFCFC#32).getLsbD j = true
  · rw [h j hj (by rintro rfl; simp at hbit) (by rintro rfl; simp at hbit) (by rintro (rfl | rfl) <;> simp at hbit)]
  · simp [hbit]

end Sys2Proof.Machine

namespace Sys2Proof

open Sys2Proof.Machine

/-- Settles O44: an instruction that completes ends in one of the two ways to advance. -/
theorem sequentialAdvance : Obligations.SequentialAdvance := by
  intro i s hi
  rcases exec_answers i s with ⟨e, hraise⟩ | ⟨p, hp, -, hscript⟩
  · exact ⟨_, hraise, .inl ⟨e, rfl⟩⟩
  · exact ⟨_, hscript, .inr (Script.run_advanced hp s hi)⟩

/-- Settles O58: the script of an instruction holds no change outside the lists. -/
theorem onlyTheNamedInstructionsWrite : Obligations.OnlyTheNamedInstructionsWrite := by
  intro i s t hexec hne
  rcases exec_answers i s with ⟨e, hraise⟩ | ⟨p, hp, hrun, hscript⟩
  · rw [hraise] at hexec
    cases hexec
    exact absurd rfl (hne e)
  rw [hscript] at hexec
  cases hexec
  refine ⟨fun hi => ?_, fun hi => ?_, fun hi => ?_, Script.run_mac hp s, Script.run_pr hp s, Script.run_gbr hp s,
    fun hi => Script.run_vbr hp s (by simp [hi]), fun hi => Script.run_saved hp s (by simp [hi]), fun hu => ?_⟩
  · have hload := Instr.loadsSr_eq_false (fun h => (Instr.lists_of_loadsSr h).1) hi
    exact Script.run_srBit hp s (by decide) hload (fun _ => hi) (by simp) (by simp)
  · have hload := Instr.loadsSr_eq_false (fun h => (Instr.lists_of_loadsSr h).2.1) hi
    exact Script.run_srBit hp s (by decide) hload (by simp) (fun _ => hi) (by simp)
  · have hload := Instr.loadsSr_eq_false (fun h => (Instr.lists_of_loadsSr h).2.2) hi
    exact ⟨Script.run_srBit hp s (by decide) hload (by simp) (by simp) (fun _ => hi),
      Script.run_srBit hp s (by decide) hload (by simp) (by simp) (fun _ => hi)⟩
  · have hi := hrun.unprivileged hu
    have hload := Instr.loadsSr_eq_false Instr.isPrivileged_of_loadsSr hi
    refine ⟨and_system_bits_eq fun j hj h0 h1 h89 => ?_, Script.run_vbr hp s (by simp [hi]),
      Script.run_saved hp s (by simp [hi])⟩
    exact Script.run_srBit hp s hj hload (absurd · h0) (absurd · h1) (absurd · h89)

end Sys2Proof
end

section
/-! The invariant of the machine: what keeps it among the changes, the resets, the exceptions and the interrupts, and
what the instruction boundary makes of a step (R18, R447). -/

namespace Sys2Proof.Machine

/-! ### Reserved bits (R39, R43) -/

theorem reservedClear_or {v w : Word} (hv : reservedClear v) (hw : reservedClear w) : reservedClear (v ||| w) := by
  unfold reservedClear at *
  rw [BitVec.and_or_distrib_right, hv, hw]
  rfl

theorem reservedClear_and_left {v : Word} (hv : reservedClear v) (w : Word) : reservedClear (v &&& w) := by
  unfold reservedClear at *
  rw [BitVec.and_assoc, BitVec.and_comm w, ← BitVec.and_assoc, hv, BitVec.zero_and]

theorem reservedClear_and_right (v : Word) {w : Word} (hw : reservedClear w) : reservedClear (v &&& w) :=
  BitVec.and_comm w v ▸ reservedClear_and_left hw v

theorem reservedClear_setBit {w : Word} (hw : reservedClear w) (k : Nat) (b : Bool)
    (hk : reservedClear (1#32 <<< k)) : reservedClear (setBit w k b) := by
  cases b with
  | false => exact reservedClear_and_left hw _
  | true => exact reservedClear_or hw hk

theorem reservedClear_resetBits (p : Platform) : reservedClear (Sr.resetBits p) :=
  have hmask : reservedClear 0x000000F0#32 := rfl
  reservedClear_setBit (reservedClear_setBit (reservedClear_setBit hmask 30 _ rfl) 29 _ rfl) 28 _ rfl

/-! ### The invariant, without what it says of power-down states -/

/-- Memory and TLB are canonical, the TLB lies within the platform's geometry, and the reserved bits of SR and SSR are
0. -/
structure State.Canonical (s : State) : Prop where
  mem : Memory.wf s.mem = true
  tlb : Tlb.wf s.tlb = true
  range : s.tlbInRange
  sr : reservedClear s.sr
  ssr : reservedClear s.ssr

theorem State.inv_iff (s : State) : s.Inv ↔ s.Canonical ∧ (s.mode ≠ .running → s.pending = none) :=
  ⟨fun ⟨hmem, htlb, hrange, hsr, hssr, hmode⟩ => ⟨⟨hmem, htlb, hrange, hsr, hssr⟩, hmode⟩,
    fun ⟨⟨hmem, htlb, hrange, hsr, hssr⟩, hmode⟩ => ⟨hmem, htlb, hrange, hsr, hssr, hmode⟩⟩

/-- A running state meets the invariant once it is canonical. -/
theorem State.Canonical.inv_of_running {s : State} (h : s.Canonical) (hmode : s.mode = .running) : s.Inv :=
  s.inv_iff.mpr ⟨h, fun hne => absurd hmode hne⟩

/-- With memory, TLB and platform as they were, only SR and SSR have to be looked at. -/
theorem State.Canonical.of_stores {s t : State} (h : s.Canonical) (hmem : t.mem = s.mem) (htlb : t.tlb = s.tlb)
    (hplatform : t.platform = s.platform) (hsr : reservedClear t.sr) (hssr : reservedClear t.ssr) : t.Canonical where
  mem := hmem ▸ h.mem
  tlb := htlb ▸ h.tlb
  range := by unfold State.tlbInRange; rw [htlb, hplatform]; exact h.range
  sr := hsr
  ssr := hssr

theorem Change.run_canonical (o : Change) {s : State} (h : s.Canonical) : (o.run s).Canonical := by
  cases o with
  | flagT b => exact h.of_stores rfl rfl rfl (reservedClear_setBit h.sr 0 b rfl) h.ssr
  | flagS b => exact h.of_stores rfl rfl rfl (reservedClear_setBit h.sr 1 b rfl) h.ssr
  | flagQ b => exact h.of_stores rfl rfl rfl (reservedClear_setBit h.sr 8 b rfl) h.ssr
  | flagM b => exact h.of_stores rfl rfl rfl (reservedClear_setBit h.sr 9 b rfl) h.ssr
  | sr v => exact h.of_stores rfl rfl rfl (reservedClear_and_right v rfl) h.ssr
  | ssr v => exact h.of_stores rfl rfl rfl h.sr (reservedClear_and_right v rfl)
  | restoreSr => exact h.of_stores rfl rfl rfl h.ssr h.ssr
  | tlb => exact ⟨h.mem, s.wf_loadTlb h.tlb, s.loadTlb_inRange h.range, h.sr, h.ssr⟩
  | read a z =>
    refine h.of_stores (s.afterRead_mem a z) (s.afterRead_tlb a z) (s.afterRead_platform a z) ?_ ?_
    · exact (s.afterRead_sr a z).symm ▸ h.sr
    · exact (s.afterRead_ssr a z).symm ▸ h.ssr
  | write a z v =>
    refine ⟨s.wf_memWrite a z v h.mem, ?_, ?_, ?_, ?_⟩
    · exact (s.memWrite_tlb a z v).symm ▸ h.tlb
    · simpa only [Change.run, State.tlbInRange, State.memWrite_tlb, State.memWrite_platform] using h.range
    · exact (s.memWrite_sr a z v).symm ▸ h.sr
    · exact (s.memWrite_ssr a z v).symm ▸ h.ssr
  | _ => exact h.of_stores rfl rfl rfl h.sr h.ssr

/-- A script that begins in the running mode keeps the invariant: only SLEEP leaves that mode, once nothing is
pending. -/
theorem Script.run_inv (p : Script) {s : State} (h : s.Canonical) (hmode : s.mode = .running) : (p.run s).Inv := by
  have hchanges : (Change.runAll p.changes s).Canonical :=
    Change.runAll_preserves p.changes (fun o _ _ hu => o.run_canonical hu) s h
  have hrunning : (Change.runAll p.changes s).mode = .running := (Change.runAll_mode s p.changes).trans hmode
  refine (State.inv_iff _).mpr ⟨?_, ?_⟩
  · obtain ⟨pc, pending, mode, heq⟩ := p.next.run_eq (Change.runAll p.changes s)
    rw [Script.run, heq]
    exact hchanges.of_stores rfl rfl rfl hchanges.sr hchanges.ssr
  · obtain ⟨changes, c⟩ := p
    cases c with
    | sleep => exact fun _ => rfl
    | advance | branch | delayed => exact fun hne => absurd hrunning hne

/-! ### Resets, exceptions and interrupts keep the invariant -/

theorem State.resetBy_canonical {s : State} (h : s.Canonical) (k : ResetKind) : (s.resetBy k).Canonical := by
  have hsr (v : Word) : reservedClear (Sr.resetBits s.platform ||| (v &&& Sr.userBits)) :=
    reservedClear_or (reservedClear_resetBits s.platform) (reservedClear_and_right v rfl)
  cases k with
  | powerOn => exact h.of_stores rfl rfl rfl (hsr _) (reservedClear_and_right _ rfl)
  | manual => exact h.of_stores rfl rfl rfl (hsr _) h.ssr

theorem State.raise_canonical {s : State} (h : s.Canonical) (e : Exc) : (s.raise e).Canonical := by
  cases hb : s.bl with
  | true => rw [State.raise_blocked s e hb]; exact State.resetBy_canonical h .manual
  | false =>
    rw [State.raise_open s e hb]
    exact h.of_stores rfl rfl rfl (reservedClear_or h.sr rfl) h.sr

theorem State.interrupt_canonical {s : State} (h : s.Canonical) (r : IntReq) : (s.interrupt r).Canonical :=
  h.of_stores (by simp) (by simp) (by simp) (s.interrupt_sr r ▸ reservedClear_or h.sr rfl) (s.interrupt_ssr r ▸ h.sr)

/-! ### What one step can be -/

/-- What the boundary at a state makes of the step: a function of the state once the input is taken (R18, R447). -/
inductive Acts (s : State) : (State → Result) → Prop
  | reset (k : ResetKind) (hk : s.input.reset = some k) : Acts s fun u => .next (u.resetBy k)
  | interrupt (r : IntReq) : Acts s fun u => .next (u.interrupt r)
  /-- A power-down state waits (R470). -/
  | wait (hmode : s.mode ≠ .running) : Acts s .next
  /-- The fetch fails, or the word is undefined code. -/
  | raise (e : Exc) : Acts s fun u => .next (u.raise e)
  | execute (w : Half) (i : Instr) (hmode : s.mode = .running) (hfetch : s.afterInput.fetch = some w)
      (hdecode : decode w = .ok i) : Acts s (exec i)

theorem step_of_reset {s : State} {k : ResetKind} (h : s.input.reset = some k) :
    step s = .next (s.afterInput.resetBy k) := by
  unfold step
  rw [h]

theorem step_of_accepted {s : State} {r : IntReq} (hreset : s.input.reset = none) (hr : s.input.request = some r)
    (hacc : s.afterInput.accepts r = true) : step s = .next (s.afterInput.interrupt r) := by
  unfold step
  rw [hreset, hr]
  exact if_pos hacc

theorem runInstruction_of_no_fetch {s : State} (h : s.fetch = none) :
    runInstruction s = .next (s.raise (.addressError .fetch)) := by
  unfold runInstruction
  rw [h]

theorem runInstruction_of_undefined {s : State} {w : Half} {d : DecodeError} (hfetch : s.fetch = some w)
    (hdecode : decode w = .error d) : runInstruction s = .next s.raiseIllegal := by
  unfold runInstruction
  rw [hfetch]
  simp only [hdecode]

theorem runOrWait_of_powerDown {s : State} (h : s.mode ≠ .running) : runOrWait s = .next s := by
  unfold runOrWait
  cases hm : s.mode with
  | running => exact absurd hm h
  | sleeping | standby => rfl

theorem SameView.afterInput {s s' : State} (h : SameView s s') : SameView s.afterInput s'.afterInput := by
  cases h with
  | refl => exact .refl
  | hidden hu bank1 ssr spc => exact .hidden (s := s.afterInput) hu bank1 ssr spc

/-- From two states with the same view, the boundary makes one and the same thing of the step. -/
theorem step_acts {s s' : State} (h : SameView s s') :
    ∃ f, Acts s f ∧ step s = f s.afterInput ∧ step s' = f s'.afterInput := by
  have hinput : s'.input = s.input := h.value State.input fun _ _ _ _ => rfl
  have haccepts (r : IntReq) : s'.afterInput.accepts r = s.afterInput.accepts r :=
    h.afterInput.value (fun u => u.accepts r) fun _ _ _ _ => rfl
  have hmode' : s'.mode = s.mode := h.value State.mode fun _ _ _ _ => rfl
  have hfetch' : s'.afterInput.fetch = s.afterInput.fetch := h.afterInput.value State.fetch fun _ _ _ _ => rfl
  cases hreset : s.input.reset with
  | some k => exact ⟨_, .reset k hreset, step_of_reset hreset, step_of_reset (hinput.symm ▸ hreset)⟩
  | none =>
    have hreset' : s'.input.reset = none := hinput.symm ▸ hreset
    by_cases hreq : ∃ r, s.input.request = some r ∧ s.afterInput.accepts r = true
    · obtain ⟨r, hr, hacc⟩ := hreq
      exact ⟨_, .interrupt r, step_of_accepted hreset hr hacc,
        step_of_accepted hreset' (hinput.symm ▸ hr) ((haccepts r).trans hacc)⟩
    have hnone : ∀ r, s.input.request = some r → s.afterInput.accepts r = false :=
      fun r hr => Bool.eq_false_iff.mpr fun hacc => hreq ⟨r, hr, hacc⟩
    have hnone' : ∀ r, s'.input.request = some r → s'.afterInput.accepts r = false :=
      fun r hr => (haccepts r).trans (hnone r (hinput ▸ hr))
    rw [step_eq_runOrWait hreset hnone, step_eq_runOrWait hreset' hnone']
    by_cases hmode : s.mode ≠ .running
    · exact ⟨_, .wait hmode, runOrWait_of_powerDown hmode, runOrWait_of_powerDown (s := s'.afterInput) (hmode' ▸ hmode)⟩
    rw [not_not] at hmode
    rw [runOrWait_of_running (s := s.afterInput) hmode, runOrWait_of_running (s := s'.afterInput) (hmode'.trans hmode)]
    cases hfetch : s.afterInput.fetch with
    | none =>
      exact ⟨_, .raise _, runInstruction_of_no_fetch hfetch, runInstruction_of_no_fetch (hfetch'.trans hfetch)⟩
    | some w =>
      cases hdecode : decode w with
      | error d =>
        rw [runInstruction_of_undefined hfetch hdecode, runInstruction_of_undefined (hfetch'.trans hfetch) hdecode,
          State.raiseIllegal, State.raiseIllegal, h.afterInput.pending]
        exact ⟨_, .raise _, rfl, rfl⟩
      | ok i =>
        exact ⟨_, .execute w i hmode hfetch hdecode, runInstruction_of_decode hfetch hdecode,
          runInstruction_of_decode (hfetch'.trans hfetch) hdecode⟩

theorem State.afterInput_canonical {s : State} (h : s.Canonical) : s.afterInput.Canonical :=
  h.of_stores rfl rfl rfl h.sr h.ssr

end Sys2Proof.Machine

namespace Sys2Proof

open Sys2Proof.Machine

/-- Settles O55: whatever the boundary makes of the step, it keeps the invariant. -/
theorem stepKeepsInvariant : Obligations.StepKeepsInvariant := by
  intro s hinv
  obtain ⟨hs, hpowerDown⟩ := s.inv_iff.mp hinv
  have hc := State.afterInput_canonical hs
  obtain ⟨f, hacts, hstep, -⟩ := step_acts (SameView.refl (s := s))
  rw [hstep]
  cases hacts with
  | reset k => exact ⟨_, rfl, (State.resetBy_canonical hc k).inv_of_running (by cases k <;> rfl)⟩
  | interrupt r => exact ⟨_, rfl, (State.interrupt_canonical hc r).inv_of_running (State.interrupt_mode _ r)⟩
  | wait => exact ⟨_, rfl, (State.inv_iff _).mpr ⟨hc, hpowerDown⟩⟩
  | raise e => exact ⟨_, rfl, (State.raise_canonical hc e).inv_of_running (State.raise_mode _ e)⟩
  | execute w i hmode =>
    rcases exec_answers i s.afterInput with ⟨e, hraise⟩ | ⟨p, -, -, hscript⟩
    · exact ⟨_, hraise, (State.raise_canonical hc e).inv_of_running (State.raise_mode _ e)⟩
    · exact ⟨_, hscript, p.run_inv hc hmode⟩

/-- Settles O56: the reset state is canonical, and it runs. -/
theorem resetMeetsInvariant : Obligations.ResetMeetsInvariant :=
  State.Canonical.inv_of_running
    { mem := State.reset_stores_wf.1, tlb := State.reset_stores_wf.2, range := by simp [State.tlbInRange, State.reset],
      sr := rfl, ssr := rfl } rfl

end Sys2Proof
end

section
/-! Noninterference of user mode (R59, R430): no change of user mode sees or touches bank 1, SSR and SPC, and an entry
writes SSR and SPC from what user mode can see. -/

namespace Sys2Proof.Machine

/-! ### Changes in user mode and the hidden registers -/

/-- A byte written does not look at bank 1, SSR and SPC. -/
theorem State.writeByte_withHidden (s : State) (bank1 : Vector Word 8) (ssr spc : Word) (a : Word) (b : Byte) :
    (s.withHidden bank1 ssr spc).writeByte a b = (s.writeByte a b).withHidden bank1 ssr spc := by
  have hsame : ctrlByte (s.withHidden bank1 ssr spc).platform a = ctrlByte s.platform a := rfl
  rw [State.writeByte, State.writeByte, hsame]
  cases ctrlByte s.platform a with
  | none => rfl
  | some x =>
    obtain ⟨r, k⟩ := x
    cases r <;> rfl

theorem State.writeBytes_withHidden (bs : List Byte) (s : State) (bank1 : Vector Word 8) (ssr spc : Word) (a : Word) :
    (s.withHidden bank1 ssr spc).writeBytes a bs = (s.writeBytes a bs).withHidden bank1 ssr spc := by
  induction bs generalizing s a with
  | nil => rfl
  | cons b rest ih => rw [State.writeBytes, State.writeBytes, State.writeByte_withHidden, ih]

theorem State.memWrite_withHidden (s : State) (bank1 : Vector Word 8) (ssr spc : Word) (a : Word) (z : Size)
    (v : Word) : (s.withHidden bank1 ssr spc).memWrite a z v = (s.memWrite a z v).withHidden bank1 ssr spc := by
  cases hd : s.isDevice a with
  | true =>
    have hd' : (s.withHidden bank1 ssr spc).isDevice a = true := hd
    rw [State.memWrite, State.memWrite, if_pos hd, if_pos hd']
    rfl
  | false =>
    have hn : ¬s.isDevice a = true := by simp [hd]
    have hn' : ¬(s.withHidden bank1 ssr spc).isDevice a = true := hn
    rw [State.memWrite, State.memWrite, if_neg hn, if_neg hn']
    exact State.writeBytes_withHidden _ s bank1 ssr spc a

/-- Writing a register of user mode neither sees nor changes bank 1. -/
theorem State.setReg_withHidden {s : State} (hu : s.md = false) (bank1 : Vector Word 8) (ssr spc : Word) (n : RegNum)
    (v : Word) : (s.withHidden bank1 ssr spc).setReg n v = (s.setReg n v).withHidden bank1 ssr spc := by
  have hne := physReg_ne_bank1 (sr := s.sr) hu n
  change { s.withHidden bank1 ssr spc with gpr := Gpr.write { s.gpr with bank1 := bank1 } (physReg s.sr n) v } =
    { s with gpr := { (s.gpr.write (physReg s.sr n) v) with bank1 := bank1 }, ssr := ssr, spc := spc }
  cases hp : physReg s.sr n with
  | bank1 j => exact absurd hp (hne j)
  | bank0 j => rfl
  | common j => rfl

theorem State.setReg_bank1 {s : State} (hu : s.md = false) (n : RegNum) (v : Word) :
    (s.setReg n v).gpr.bank1 = s.gpr.bank1 := by
  have hne := physReg_ne_bank1 (sr := s.sr) hu n
  rw [State.setReg_gpr]
  cases hp : physReg s.sr n with
  | bank1 j => exact absurd hp (hne j)
  | bank0 j => rfl
  | common j => rfl

section
variable {i : Instr} (hi : i.isPrivileged = false)
include hi

theorem Change.run_withHidden {o : Change} (ho : Change.allowed i o = true) {s : State} (hu : s.md = false)
    (bank1 : Vector Word 8) (ssr spc : Word) :
    o.run (s.withHidden bank1 ssr spc) = (o.run s).withHidden bank1 ssr spc := by
  cases o with
  | reg n v => exact State.setReg_withHidden hu bank1 ssr spc n v
  | read a z => exact State.afterRead_withHidden s bank1 ssr spc a z
  | write a z v => exact State.memWrite_withHidden s bank1 ssr spc a z v
  | other | tlb => exact absurd (hi.symm.trans ho) (by decide)
  | vbr | ssr | spc => simp [Change.allowed, hi] at ho
  | sr | restoreSr =>
    exact absurd ((Instr.loadsSr_eq_false Instr.isPrivileged_of_loadsSr hi).symm.trans ho) (by decide)
  | _ => rfl

theorem Change.run_bank1 {o : Change} (ho : Change.allowed i o = true) {s : State} (hu : s.md = false) :
    (o.run s).gpr.bank1 = s.gpr.bank1 := by
  cases o with
  | reg n v => exact State.setReg_bank1 hu n v
  | other => exact absurd (hi.symm.trans ho) (by decide)
  | read a z => exact congrArg Gpr.bank1 (s.afterRead_gpr a z)
  | write a z v => exact congrArg Gpr.bank1 (s.memWrite_gpr a z v)
  | _ => rfl

theorem Change.run_user {o : Change} (ho : Change.allowed i o = true) {s : State} (hu : s.md = false) :
    (o.run s).md = false := by
  have hload := Instr.loadsSr_eq_false Instr.isPrivileged_of_loadsSr hi
  exact (Change.run_srBit s ho (j := 30) (by decide) hload (by simp) (by simp) (by simp)).trans hu

theorem Change.runAll_withHidden (changes : List Change) (hchanges : ∀ o ∈ changes, Change.allowed i o = true)
    {s : State} (hu : s.md = false) (bank1 : Vector Word 8) (ssr spc : Word) :
    Change.runAll changes (s.withHidden bank1 ssr spc) = (Change.runAll changes s).withHidden bank1 ssr spc := by
  induction changes generalizing s with
  | nil => rfl
  | cons o rest ih =>
    have ho := hchanges o (by simp)
    calc Change.runAll rest (o.run (s.withHidden bank1 ssr spc))
        = Change.runAll rest ((o.run s).withHidden bank1 ssr spc) := by rw [Change.run_withHidden hi ho hu]
      _ = (Change.runAll rest (o.run s)).withHidden bank1 ssr spc :=
        ih (fun o' ho' => hchanges o' (by simp [ho'])) (Change.run_user hi ho hu)

/-- In user mode a script runs alike whatever stands in the hidden registers. -/
theorem Script.run_withHidden {p : Script} (hp : p.allowed i = true) {s : State} (hu : s.md = false)
    (bank1 : Vector Word 8) (ssr spc : Word) :
    p.run (s.withHidden bank1 ssr spc) = (p.run s).withHidden bank1 ssr spc := by
  obtain ⟨hchanges, -⟩ := (p.allowed_iff i).mp hp
  rw [Script.run, Change.runAll_withHidden hi p.changes hchanges hu, Script.run]
  cases p.next <;> rfl

theorem Script.run_bank1 {p : Script} (hp : p.allowed i = true) {s : State} (hu : s.md = false) :
    (p.run s).gpr.bank1 = s.gpr.bank1 := by
  obtain ⟨hchanges, -⟩ := (p.allowed_iff i).mp hp
  obtain ⟨pc, pending, mode, heq⟩ := p.next.run_eq (Change.runAll p.changes s)
  have hkept : (Change.runAll p.changes s).md = false ∧ (Change.runAll p.changes s).gpr.bank1 = s.gpr.bank1 :=
    Change.runAll_preserves (P := fun u => u.md = false ∧ u.gpr.bank1 = s.gpr.bank1) p.changes
      (fun o ho u ⟨huser, hbank⟩ =>
        ⟨Change.run_user hi (hchanges o ho) huser, (Change.run_bank1 hi (hchanges o ho) huser).trans hbank⟩) s ⟨hu, rfl⟩
  rw [Script.run, heq]
  exact hkept.2

end

/-! ### Two steps whose results differ in hidden registers alone -/

/-- The first result keeps bank 1 of `s`, and the second agrees with it but for the hidden registers; SSR and SPC are
kept by both or get the same values in both. -/
def AgreeButHidden (s : State) (bank1 : Vector Word 8) (ssr spc : Word) (r r' : Result) : Prop :=
  ∃ t, r = .next t ∧ t.gpr.bank1 = s.gpr.bank1 ∧
    ∃ ssr' spc', r' = .next (t.withHidden bank1 ssr' spc') ∧
      ((t.ssr = s.ssr ∧ t.spc = s.spc ∧ ssr' = ssr ∧ spc' = spc) ∨ (ssr' = t.ssr ∧ spc' = t.spc))

/-- A reset by an exception keeps SSR and SPC, an entry writes them from what is not hidden. -/
theorem agree_raise (s : State) (bank1 : Vector Word 8) (ssr spc : Word) (e : Exc) :
    AgreeButHidden s bank1 ssr spc (.next (s.raise e)) (.next ((s.withHidden bank1 ssr spc).raise e)) := by
  cases hb : s.bl with
  | true =>
    rw [State.raise_blocked s e hb, State.raise_blocked (s.withHidden bank1 ssr spc) e hb]
    exact ⟨_, rfl, rfl, ssr, spc, rfl, .inl ⟨rfl, rfl, rfl, rfl⟩⟩
  | false =>
    rw [State.raise_open s e hb, State.raise_open (s.withHidden bank1 ssr spc) e hb]
    refine ⟨_, rfl, rfl, s.sr, s.resumeAddress e, ?_, .inr ⟨rfl, rfl⟩⟩
    cases e <;> rfl

theorem agree_interrupt (s : State) (bank1 : Vector Word 8) (ssr spc : Word) (r : IntReq) :
    AgreeButHidden s bank1 ssr spc (.next (s.interrupt r)) (.next ((s.withHidden bank1 ssr spc).interrupt r)) := by
  refine ⟨_, rfl, congrArg Gpr.bank1 (s.interrupt_gpr r), s.sr, s.pc, ?_,
    .inr ⟨(s.interrupt_ssr r).symm, (s.interrupt_spc r).symm⟩⟩
  unfold State.interrupt
  have hsame : (s.withHidden bank1 ssr spc).platform = s.platform := rfl
  rw [hsame]
  cases s.platform.interruptRegister <;> rfl

theorem agree_exec {s : State} (hu : s.md = false) (bank1 : Vector Word 8) (ssr spc : Word) (i : Instr) :
    AgreeButHidden s bank1 ssr spc (exec i s) (exec i (s.withHidden bank1 ssr spc)) := by
  rcases exec_follows i (SameView.hidden hu bank1 ssr spc) with ⟨e, hr, hr'⟩ | ⟨p, hp, hrun, hr, hr'⟩
  · rw [hr, hr']
    exact agree_raise s bank1 ssr spc e
  · have hi := hrun.unprivileged hu
    obtain ⟨hssr, hspc⟩ := Script.run_saved hp s (by simp [hi])
    rw [hr, hr', Script.run_withHidden hi hp hu]
    exact ⟨_, rfl, Script.run_bank1 hi hp hu, ssr, spc, rfl, .inl ⟨hssr, hspc, rfl, rfl⟩⟩

end Sys2Proof.Machine

namespace Sys2Proof

open Sys2Proof.Machine

/-- Settles O59: from two states with the same view the boundary makes the same of the step, and whatever it makes
agrees but for the hidden registers. -/
theorem userModeCannotReachBankOne : Obligations.UserModeCannotReachBankOne := by
  intro s bank1 ssr spc hu hreset
  obtain ⟨f, hacts, hstep, hstep'⟩ := step_acts (SameView.hidden hu bank1 ssr spc)
  rw [hstep, hstep']
  cases hacts with
  | reset k hk => exact absurd (hreset.symm.trans hk) (by simp)
  | interrupt r => exact agree_interrupt s.afterInput bank1 ssr spc r
  | wait => exact ⟨_, rfl, rfl, ssr, spc, rfl, .inl ⟨rfl, rfl, rfl, rfl⟩⟩
  | raise e => exact agree_raise s.afterInput bank1 ssr spc e
  | execute w i => exact agree_exec (s := s.afterInput) hu bank1 ssr spc i

end Sys2Proof
end

section
/-! Changes of the mode (R38): what each kind of step leaves in MD. -/

namespace Sys2Proof.Machine

/-- A reset sets MD as the platform says. -/
theorem State.resetBy_md (s : State) (k : ResetKind) : (s.resetBy k).md = s.platform.resetMd := by
  have hbit (v : Word) : (Sr.resetBits s.platform ||| (v &&& Sr.userBits)).getLsbD 30 = s.platform.resetMd := by
    rw [BitVec.getLsbD_or, Sr.resetBits_getLsbD s.platform 30 (by decide), BitVec.getLsbD_and]
    simp [Sr.userBits]
  cases k with
  | powerOn => exact hbit _
  | manual => exact hbit _

theorem State.interrupt_md (s : State) (r : IntReq) : (s.interrupt r).md = true := by
  rw [State.md, State.interrupt_sr]
  simp [Sr.md, Sr.entryBits]

/-- An exception leaves privileged mode only as the reset of R451, on a platform whose resets do. -/
theorem State.raise_to_user {s : State} {e : Exc} (h : (s.raise e).md = false) :
    s.platform.resetMd = false ∧ s.bl = true ∧ s.raise e = s.manualReset := by
  cases hb : s.bl with
  | false => exact absurd ((s.raise_md e (by simp [hb])).symm.trans h) (by decide)
  | true =>
    have hraise := s.raise_blocked e hb
    have huser : s.manualReset.md = false := hraise ▸ h
    exact ⟨(s.resetBy_md .manual).symm.trans huser, rfl, hraise⟩

/-- What a load of SR from a register or from memory leaves in MD. -/
theorem putSr_advance_md (s : State) (v : Word) : (putSr s v).advance.md = v.getLsbD 30 := by
  change (v &&& Sr.writable).getLsbD 30 = _
  rw [BitVec.getLsbD_and]
  simp [Sr.writable]

/-- The instruction puts 0 into MD, and is one of the three that load SR whole (R38). -/
def LoadsUserMode (i : Instr) (s : State) : Prop :=
  (∃ m, i = .ldcSr m ∧ (s.reg m).getLsbD 30 = false) ∨
    (∃ m, i = .ldcLSr m ∧ (s.memRead (s.reg m) .long).getLsbD 30 = false) ∨ (i = .rte ∧ s.ssr.getLsbD 30 = false)

/-- An instruction that ends in user mode from privileged mode loads it, or has raised an exception. -/
theorem exec_to_user {i : Instr} {s t : State} (hexec : exec i s = .next t) (hmd : s.md = true) (ht : t.md = false) :
    (∃ e, t = s.raise e) ∨ LoadsUserMode i s := by
  cases hload : i.loadsSr with
  | false =>
    rcases exec_answers i s with ⟨e, hraise⟩ | ⟨p, hp, -, hscript⟩
    · rw [hraise] at hexec
      cases hexec
      exact .inl ⟨e, rfl⟩
    · rw [hscript] at hexec
      cases hexec
      exact absurd ((Script.run_md hp s hload).trans hmd) (by simp [ht])
  | true =>
    rcases i.loadsSr_iff.mp hload with ⟨m, rfl⟩ | ⟨m, rfl⟩ | rfl
    · have hput := (privileged_md s (loadControl putSr m s) hmd).symm.trans hexec
      cases hput
      rw [putSr_advance_md] at ht
      exact .inr (.inl ⟨m, rfl, ht⟩)
    · have hput := (privileged_md s (loadControlMem putSr m s) hmd).symm.trans hexec
      rcases loadControlMem_next putSr m s t hput with ⟨-, rfl⟩ | ⟨-, rfl⟩
      · rw [putSr_advance_md] at ht
        exact .inr (.inr (.inl ⟨m, rfl, ht⟩))
      · exact .inl ⟨_, rfl⟩
    · rcases outsideSlot_next s t _ hexec with ⟨-, hrest⟩ | ⟨-, rfl⟩
      · have hrestore := (privileged_md s (.next s.returnFromException) hmd).symm.trans hrest
        cases hrestore
        exact .inr (.inr (.inr ⟨rfl, ht⟩))
      · exact .inl ⟨_, rfl⟩

/-- An instruction that ends in privileged mode from user mode has raised an exception. -/
theorem exec_from_user {i : Instr} {s t : State} (hexec : exec i s = .next t) (hu : s.md = false) (ht : t.md = true) :
    ∃ e, t = s.raise e := by
  rcases exec_answers i s with ⟨e, hraise⟩ | ⟨p, hp, hrun, hscript⟩
  · rw [hraise] at hexec
    cases hexec
    exact ⟨e, rfl⟩
  · rw [hscript] at hexec
    cases hexec
    have hload := Instr.loadsSr_eq_false Instr.isPrivileged_of_loadsSr (hrun.unprivileged hu)
    exact absurd ((Script.run_md hp s hload).trans hu) (by simp [ht])

/-- A step leaves user mode by an exception, an accepted interrupt or a reset of the host's. -/
theorem step_from_user {s t : State} (hstep : step s = .next t) (hu : s.md = false) (ht : t.md = true) :
    (∃ e, t = s.afterInput.raise e) ∨ (∃ r, t = s.afterInput.interrupt r) ∨ (∃ r, t = s.afterInput.resetBy r) := by
  obtain ⟨f, hacts, hf, -⟩ := step_acts (SameView.refl (s := s))
  rw [hf] at hstep
  cases hacts with
  | reset k => cases hstep; exact .inr (.inr ⟨k, rfl⟩)
  | interrupt r => cases hstep; exact .inr (.inl ⟨r, rfl⟩)
  | wait => cases hstep; exact absurd (hu.symm.trans ht) (by decide)
  | raise e => cases hstep; exact .inl ⟨e, rfl⟩
  | execute w i => exact .inl (exec_from_user hstep hu ht)

/-- A step enters user mode by a load of SR, or by a reset on a platform whose resets do. -/
theorem step_to_user {s t : State} (hstep : step s = .next t) (hmd : s.md = true) (ht : t.md = false) :
    (s.platform.resetMd = false ∧
      ((∃ r, s.input.reset = some r) ∨ (s.bl = true ∧ t = s.afterInput.manualReset))) ∨
    ∃ w i, s.afterInput.fetch = some w ∧ decode w = .ok i ∧ LoadsUserMode i s.afterInput := by
  have hraised {e : Exc} (he : t = s.afterInput.raise e) :
      s.platform.resetMd = false ∧ s.bl = true ∧ t = s.afterInput.manualReset := by
    subst he
    exact State.raise_to_user (s := s.afterInput) ht
  obtain ⟨f, hacts, hf, -⟩ := step_acts (SameView.refl (s := s))
  rw [hf] at hstep
  cases hacts with
  | reset k hk =>
    cases hstep
    exact .inl ⟨(s.afterInput.resetBy_md k).symm.trans ht, .inl ⟨k, hk⟩⟩
  | interrupt r =>
    cases hstep
    exact absurd ((s.afterInput.interrupt_md r).symm.trans ht) (by decide)
  | wait => cases hstep; exact absurd (hmd.symm.trans ht) (by decide)
  | raise e =>
    cases hstep
    obtain ⟨hplatform, hmanual⟩ := hraised rfl
    exact .inl ⟨hplatform, .inr hmanual⟩
  | execute w i hmode hfetch hdecode =>
    rcases exec_to_user hstep hmd ht with ⟨e, he⟩ | hloads
    · obtain ⟨hplatform, hmanual⟩ := hraised he
      exact .inl ⟨hplatform, .inr hmanual⟩
    · exact .inr ⟨w, i, hfetch, hdecode, hloads⟩

end Sys2Proof.Machine

namespace Sys2Proof

open Sys2Proof.Machine

/-- Settles O60: both directions by what the boundary makes of the step. -/
theorem modeChanges : Obligations.ModeChanges := by
  refine ⟨fun s t => step_from_user, fun s t => step_to_user, fun s e h => ?_, fun m => ⟨rfl, rfl⟩, rfl⟩
  refine s.raise_md e fun hbl => h.resolve_left fun hopen => ?_
  exact absurd (hbl.symm.trans hopen) (by decide)

end Sys2Proof
end

section
/-! The banks of the general registers (R22, R23) and the values after reset (R58, R480). -/

namespace Sys2Proof.Machine

/-! ### The banks -/

theorem physReg_high (sr : Word) (j : Fin 8) : physReg sr (BitVec.ofNat 4 (8 + j.val)) = .common j := by
  have hnat : (BitVec.ofNat 4 (8 + j.val)).toNat = 8 + j.val := by simp; omega
  rw [physReg, if_pos (by omega), regIndex, hnat]
  congr 1
  ext
  simp [Fin.ofNat]

theorem physReg_low (sr : Word) (j : Fin 8) :
    physReg sr (BitVec.ofNat 4 j.val) =
      if sr.getLsbD 30 = true ∧ sr.getLsbD 29 = true then .bank1 j else .bank0 j := by
  have hnat : (BitVec.ofNat 4 j.val).toNat = j.val := by simp; omega
  have hindex : regIndex (BitVec.ofNat 4 j.val) = j := by
    unfold regIndex
    rw [hnat]
    ext
    simp [Fin.ofNat]
  rw [physReg, if_neg (by omega), hindex]
  simp only [Sr.md, Sr.rb, Bool.and_eq_true]

/-! ### Reset -/

theorem State.reset_read (p : PhysReg) : State.reset.gpr.read p = 0#32 := by
  cases p <;> exact Vector.getElem_replicate _

theorem State.reset_readByte {a : Word} (h : ctrlByte Platform.family a = none) : State.reset.readByte a = 0#8 := by
  have hreset : ctrlByte State.reset.platform a = none := h
  rw [State.readByte, hreset]
  rfl

end Sys2Proof.Machine

namespace Sys2Proof

open Sys2Proof.Machine

/-- Settles O5: each number and each bank of R22 and R23 is one physical register, and a write changes that one
alone. -/
theorem banksSelectRegisters : Obligations.BanksSelectRegisters := by
  intro s j v low high own away
  have hhigh : physReg s.sr high = .common j := physReg_high s.sr j
  have hlow : physReg s.sr low = own := physReg_low s.sr j
  refine ⟨congrArg s.gpr.read hhigh, congrArg s.gpr.read hlow, rfl, ?_, ?_, s.setOther_read j v⟩
  · rw [State.setReg_read, State.regsWith, hhigh]
  · rw [State.setReg_read, State.regsWith, hlow]

/-- Settles O57: each field as `State.reset` writes it out. -/
theorem resetValues : Obligations.ResetValues :=
  ⟨rfl, rfl, rfl, rfl, rfl, rfl, rfl, rfl, rfl, rfl, rfl, rfl, rfl, rfl, rfl, rfl, rfl, rfl,
    fun _ => State.reset_readByte, rfl, rfl, rfl, rfl, rfl, rfl, rfl, rfl, State.reset_read, rfl⟩

end Sys2Proof
end

section
/-! Bytes and control registers (20_memory.md R73, R75, R76; 10_state.md R45 to R52): how the bytes of a datum stand in
memory, which bits a control register keeps, and which of its bytes stands at an address. -/

namespace Sys2Proof.Machine

/-! ### The bytes of a word (R73) -/

theorem byteAt_toNat (v : Word) (i : Nat) : (byteAt v i).toNat = v.toNat / 2 ^ (8 * i) % 2 ^ 8 := by
  simp [byteAt, Nat.shiftRight_eq_div_pow]

theorem byteAt_getLsbD (v : Word) (i j : Nat) : (byteAt v i).getLsbD j = (decide (j < 8) && v.getLsbD (8 * i + j)) := by
  simp [byteAt]

theorem byteAt_and (v w : Word) (i : Nat) : byteAt (v &&& w) i = byteAt v i &&& byteAt w i :=
  BitVec.extractLsb'_and

theorem getLsbD_byteMask (k : Nat) : (0xFF#32).getLsbD k = decide (k < 8) := by
  rw [show 0xFF#32 = (BitVec.allOnes 8).setWidth 32 from rfl, BitVec.getLsbD_setWidth, BitVec.getLsbD_allOnes,
    ← Bool.decide_and]
  exact decide_eq_decide.mpr (by omega)

theorem withByteAt_getLsbD (w : Word) (i : Nat) (b : Byte) {j : Nat} (hj : j < 32) :
    (withByteAt w i b).getLsbD j = if j / 8 = i then b.getLsbD (j % 8) else w.getLsbD j := by
  simp only [withByteAt, BitVec.getLsbD_or, BitVec.getLsbD_and, BitVec.getLsbD_not, BitVec.getLsbD_shiftLeft,
    BitVec.getLsbD_setWidth, getLsbD_byteMask, hj]
  split
  · next h =>
    have hoffset : j - 8 * i = j % 8 := by omega
    simp [hoffset, show ¬j < 8 * i by omega, show j % 8 < 8 by omega, show j % 8 < 32 by omega]
  · next h =>
    by_cases hbelow : j < 8 * i
    · simp [hbelow]
    · simp [hbelow, show 8 ≤ j - 8 * i by omega]

theorem byteAt_withByteAt_same (w : Word) {i : Nat} (b : Byte) (hi : i < 4) : byteAt (withByteAt w i b) i = b := by
  apply BitVec.eq_of_getLsbD_eq
  intro j hj
  rw [byteAt_getLsbD, withByteAt_getLsbD _ _ _ (by omega), if_pos (by omega)]
  simp [hj, Nat.mod_eq_of_lt hj]

theorem byteAt_withByteAt_other (w : Word) {i k : Nat} (b : Byte) (hi : i < 4) (hne : i ≠ k) :
    byteAt (withByteAt w k b) i = byteAt w i := by
  apply BitVec.eq_of_getLsbD_eq
  intro j hj
  rw [byteAt_getLsbD, withByteAt_getLsbD _ _ _ (by omega), if_neg (by omega), byteAt_getLsbD]

theorem append_byte_toNat {n : Nat} (x : BitVec n) (b : Byte) : (x ++ b).toNat = 2 ^ 8 * x.toNat + b.toNat := by
  rw [BitVec.toNat_append, ← Nat.shiftLeft_add_eq_or_of_lt b.isLt, Nat.shiftLeft_eq, Nat.mul_comm]

theorem halfOfBytes_toNat (littleEndian : Bool) (b0 b1 : Byte) :
    (halfOfBytes littleEndian b0 b1).toNat =
      if littleEndian then b0.toNat + 2 ^ 8 * b1.toNat else 2 ^ 8 * b0.toNat + b1.toNat := by
  cases littleEndian
  · exact append_byte_toNat b0 b1
  · exact (append_byte_toNat b1 b0).trans (Nat.add_comm _ _)

theorem wordOfBytes_toNat (littleEndian : Bool) (b0 b1 b2 b3 : Byte) :
    (wordOfBytes littleEndian b0 b1 b2 b3).toNat =
      if littleEndian then b0.toNat + 2 ^ 8 * b1.toNat + 2 ^ 16 * b2.toNat + 2 ^ 24 * b3.toNat
      else 2 ^ 24 * b0.toNat + 2 ^ 16 * b1.toNat + 2 ^ 8 * b2.toNat + b3.toNat := by
  cases littleEndian <;> simp only [wordOfBytes, append_byte_toNat, Bool.false_eq_true, if_false, if_true] <;> omega

/-! ### Sizes -/

theorem Size.bytes_pos (z : Size) : 0 < z.bytes := by cases z <;> decide

theorem Size.bytes_le (z : Size) : z.bytes ≤ 4 := by cases z <;> decide

/-- The low bits of a word are the number modulo the size (R76). -/
theorem Size.low_toNat (z : Size) (v : Word) : (z.low v).toNat = v.toNat % 2 ^ (8 * z.bytes) := by
  cases z with
  | byte => exact (BitVec.toNat_and ..).trans (Nat.and_two_pow_sub_one_eq_mod v.toNat 8)
  | word => exact (BitVec.toNat_and ..).trans (Nat.and_two_pow_sub_one_eq_mod v.toNat 16)
  | long => exact (Nat.mod_eq_of_lt v.isLt).symm

/-- Which byte of a datum, counted from the least significant, stands at an offset from its address (R73). -/
def Size.place (z : Size) (littleEndian : Bool) (k : Nat) : Nat := if littleEndian then k else z.bytes - 1 - k

theorem bytesOf_eq (littleEndian : Bool) (z : Size) (v : Word) :
    bytesOf littleEndian z v = (List.range z.bytes).map fun k => byteAt v (z.place littleEndian k) := by
  cases z <;> cases littleEndian <;> rfl

theorem bytesOf_length (littleEndian : Bool) (z : Size) (v : Word) : (bytesOf littleEndian z v).length = z.bytes := by
  simp [bytesOf_eq]

theorem aligned_iff (a : Word) (z : Size) : aligned a z = true ↔ a.toNat % z.bytes = 0 := by
  cases z with
  | byte => simp [aligned, Size.bytes, Nat.mod_one]
  | word => simp [aligned, Size.bytes, ← BitVec.toNat_inj]
  | long => simp [aligned, Size.bytes, ← BitVec.toNat_inj]

/-! ### Reads of bytes (R73, R75) -/

theorem State.bytesRead_byte_toNat (s : State) (a : Word) : (s.bytesRead a .byte).toNat = (s.readByte a).toNat := by
  simp only [State.bytesRead, BitVec.toNat_setWidth]
  omega

theorem State.bytesRead_word_toNat (s : State) (a : Word) :
    (s.bytesRead a .word).toNat =
      if s.littleEndian then (s.readByte a).toNat + 2 ^ 8 * (s.readByte (a + 1#32)).toNat
      else 2 ^ 8 * (s.readByte a).toNat + (s.readByte (a + 1#32)).toNat := by
  rw [State.bytesRead, BitVec.toNat_setWidth, Nat.mod_eq_of_lt (by omega), halfOfBytes_toNat]

theorem State.bytesRead_long_toNat (s : State) (a : Word) :
    (s.bytesRead a .long).toNat =
      if s.littleEndian then
        (s.readByte a).toNat + 2 ^ 8 * (s.readByte (a + 1#32)).toNat + 2 ^ 16 * (s.readByte (a + 2#32)).toNat +
          2 ^ 24 * (s.readByte (a + 3#32)).toNat
      else
        2 ^ 24 * (s.readByte a).toNat + 2 ^ 16 * (s.readByte (a + 1#32)).toNat +
          2 ^ 8 * (s.readByte (a + 2#32)).toNat + (s.readByte (a + 3#32)).toNat :=
  wordOfBytes_toNat ..

/-- Where the bytes of a datum stand in the byte order, they read as the datum. -/
theorem State.bytesRead_of_bytes {s : State} {a : Word} {z : Size} {v : Word}
    (h : ∀ k < z.bytes, s.readByte (a + BitVec.ofNat 32 k) = byteAt v (z.place s.littleEndian k)) :
    s.bytesRead a z = z.low v := by
  have h0 : s.readByte a = byteAt v (z.place s.littleEndian 0) := by simpa using h 0 z.bytes_pos
  apply BitVec.eq_of_toNat_eq
  rw [Size.low_toNat]
  cases z with
  | byte =>
    rw [State.bytesRead_byte_toNat, h0]
    cases s.littleEndian <;> simp [Size.place, Size.bytes, byteAt_toNat]
  | word =>
    rw [State.bytesRead_word_toNat, h0, h 1 (by decide)]
    cases s.littleEndian <;> simp [Size.place, Size.bytes, byteAt_toNat] <;> omega
  | long =>
    rw [State.bytesRead_long_toNat, h0, h 1 (by decide), h 2 (by decide), h 3 (by decide)]
    cases s.littleEndian <;> simp [Size.place, Size.bytes, byteAt_toNat] <;> omega

/-! ### The control registers (R45 to R52) -/

/-- The bits of a control register that it implements (R45, R46, R49; log entry 15). -/
def CtrlReg.implemented : CtrlReg → Word
  | .tra => (BitVec.allOnes 8).setWidth 32 <<< 2
  | .expevt => (BitVec.allOnes 12).setWidth 32
  | .stbcr => (BitVec.allOnes 8).setWidth 32
  | .pteh | .ptel | .mmucr | .intevt => BitVec.allOnes 32

theorem setWidth_setWidth_eq_and {n : Nat} (v : Word) :
    (v.setWidth n).setWidth 32 = v &&& (BitVec.allOnes n).setWidth 32 := by
  apply BitVec.eq_of_getLsbD_eq
  intro j hj
  simp [hj, Bool.and_comm]

theorem shifted_field_eq_and (v : Word) :
    (v.extractLsb' 2 8).setWidth 32 <<< 2 = v &&& (BitVec.allOnes 8).setWidth 32 <<< 2 := by
  apply BitVec.eq_of_getLsbD_eq
  intro j hj
  simp only [BitVec.getLsbD_and, BitVec.getLsbD_shiftLeft, BitVec.getLsbD_setWidth, BitVec.getLsbD_extractLsb',
    BitVec.getLsbD_allOnes]
  by_cases hlow : j < 2
  · simp [hlow]
  · simp [hlow, hj, show 2 + (j - 2) = j by omega, show j - 2 < 32 by omega, Bool.and_comm]

/-- A control register keeps the bits that it implements. -/
theorem CtrlReg.get_set (r : CtrlReg) (v : Word) (s : State) : r.get (r.set v s) = v &&& r.implemented := by
  cases r with
  | tra => exact shifted_field_eq_and v
  | expevt | stbcr => exact setWidth_setWidth_eq_and v
  | pteh | ptel | mmucr | intevt => exact BitVec.and_allOnes.symm

/-- Storing into a control register leaves what the others read as. -/
theorem CtrlReg.get_set_other {r r' : CtrlReg} (h : r ≠ r') (v : Word) (s : State) : r.get (r'.set v s) = r.get s := by
  cases r' <;> cases r <;> simp_all [CtrlReg.get, CtrlReg.set]

theorem CtrlReg.set_set (r : CtrlReg) (v w : Word) (s : State) : r.set v (r.set w s) = r.set v s := by
  cases r <;> rfl

theorem CtrlReg.set_get (r : CtrlReg) (s : State) : r.set (r.get s) s = s := by
  cases r with
  | tra =>
    have hfield : (s.tra.setWidth 32 <<< 2).extractLsb' 2 8 = s.tra := by
      ext j hj
      simp [hj, show 1 < 2 + j by omega, show 2 + j < 32 by omega]
    simp only [CtrlReg.get, CtrlReg.set, hfield]
  | expevt | stbcr => simp [CtrlReg.get, CtrlReg.set]
  | pteh | ptel | mmucr | intevt => rfl

/-- Only the implemented bits of a value matter to the register that takes it. -/
theorem CtrlReg.set_implemented (r : CtrlReg) (v : Word) (s : State) : r.set (v &&& r.implemented) s = r.set v s := by
  calc r.set (v &&& r.implemented) s = r.set (r.get (r.set v s)) (r.set v s) := by rw [r.set_set, r.get_set]
    _ = r.set v s := r.set_get _

theorem CtrlReg.get_and_implemented (r : CtrlReg) (s : State) : r.get s &&& r.implemented = r.get s := by
  rw [← r.get_set, r.set_get]

/-- A register as wide as an access is read whole by it. -/
theorem CtrlReg.low_get {r : CtrlReg} {z : Size} (h : z.bytes = r.bytes) (s : State) : z.low (r.get s) = r.get s := by
  apply BitVec.eq_of_toNat_eq
  rw [Size.low_toNat, h, Nat.mod_eq_of_lt]
  cases r with
  | stbcr => simp [CtrlReg.get, CtrlReg.bytes]; omega
  | pteh | ptel | mmucr | tra | expevt | intevt => exact BitVec.isLt _

theorem CtrlReg.bytes_pos (r : CtrlReg) : 0 < r.bytes := by cases r <;> decide

theorem CtrlReg.place_lt (r : CtrlReg) (littleEndian : Bool) {k : Nat} (hk : k < r.bytes) :
    r.place littleEndian k < 4 := by
  have hbytes : r.bytes ≤ 4 := by cases r <;> decide
  unfold CtrlReg.place
  split <;> omega

theorem CtrlReg.place_injective (r : CtrlReg) (littleEndian : Bool) {j k : Nat} (hj : j < r.bytes) (hk : k < r.bytes)
    (h : r.place littleEndian j = r.place littleEndian k) : j = k := by
  unfold CtrlReg.place at h
  split at h <;> omega

/-- In a register as wide as the datum, its bytes stand as those of the datum. -/
theorem Size.place_eq {r : CtrlReg} {z : Size} (h : z.bytes = r.bytes) (littleEndian : Bool) (k : Nat) :
    z.place littleEndian k = r.place littleEndian k := by
  rw [Size.place, h, CtrlReg.place]

/-- A register with one byte replaced keeps its other bytes. -/
theorem CtrlReg.byteAt_get_set_other (r : CtrlReg) (littleEndian : Bool) {j k : Nat} (hj : j < r.bytes)
    (hk : k < r.bytes) (hne : j ≠ k) (b : Byte) (s : State) :
    byteAt (r.get (r.set (withByteAt (r.get s) (r.place littleEndian k) b) s)) (r.place littleEndian j) =
      byteAt (r.get s) (r.place littleEndian j) := by
  have hplaces : r.place littleEndian j ≠ r.place littleEndian k := fun h => hne (r.place_injective _ hj hk h)
  rw [r.get_set, byteAt_and, byteAt_withByteAt_other _ _ (r.place_lt _ hj) hplaces, ← byteAt_and,
    r.get_and_implemented]

/-- The register that `ctrlByte` finds covers the address, at the offset that it gives. -/
theorem ctrlByte_some {p : Platform} {a : Word} {r : CtrlReg} {k : Nat} (h : ctrlByte p a = some (r, k)) :
    ∃ base, r.addr p = some base ∧ k = (a - base).toNat ∧ k < r.bytes := by
  obtain ⟨q, -, hq⟩ := List.exists_of_findSome?_eq_some h
  cases hbase : q.addr p with
  | none => simp [hbase] at hq
  | some base =>
    simp only [hbase, Option.ite_none_right_eq_some, Option.some.injEq, Prod.mk.injEq] at hq
    obtain ⟨hk, rfl, rfl⟩ := hq
    exact ⟨base, hbase, rfl, hk⟩

theorem ctrlByte_lt {p : Platform} {a : Word} {r : CtrlReg} {k : Nat} (h : ctrlByte p a = some (r, k)) :
    k < r.bytes := by
  obtain ⟨_, _, _, hk⟩ := ctrlByte_some h
  exact hk

/-- No two addresses are the same byte of a register. -/
theorem ctrlByte_injective {p : Platform} {a b : Word} {r : CtrlReg} {k : Nat} (ha : ctrlByte p a = some (r, k))
    (hb : ctrlByte p b = some (r, k)) : a = b := by
  obtain ⟨base, haddr, hka, -⟩ := ctrlByte_some ha
  obtain ⟨base', haddr', hkb, -⟩ := ctrlByte_some hb
  obtain rfl : base = base' := Option.some.inj (haddr.symm.trans haddr')
  exact BitVec.sub_left_inj base |>.mp (BitVec.eq_of_toNat_eq (hka.symm.trans hkb))

theorem State.readByte_memory {s : State} {a : Word} (h : ctrlByte s.platform a = none) :
    s.readByte a = Memory.read s.mem a.toNat := by
  rw [State.readByte, h]

theorem State.readByte_ctrl {s : State} {a : Word} {r : CtrlReg} {k : Nat} (h : ctrlByte s.platform a = some (r, k)) :
    s.readByte a = byteAt (r.get s) (r.place s.littleEndian k) := by
  rw [State.readByte, h]

theorem State.isDevice_ctrl {s : State} {a : Word} {x : CtrlReg × Nat} (h : ctrlByte s.platform a = some x) :
    s.isDevice a = false := by
  simp [State.isDevice, h]

theorem State.isDevice_ctrlAt {s : State} {a : Word} {z : Size} {r : CtrlReg} (h : s.ctrlAt a z r) :
    s.isDevice a = false :=
  State.isDevice_ctrl (by simpa using h.2 0 r.bytes_pos)

/-- A read of a whole control register at its own address and size (R52). -/
theorem State.memRead_ctrlAt {s : State} {a : Word} {z : Size} {r : CtrlReg} (h : s.ctrlAt a z r) :
    s.memRead a z = r.get s := by
  obtain ⟨hsize, hbytes⟩ := h
  have hread : ∀ k < z.bytes, s.readByte (a + BitVec.ofNat 32 k) = byteAt (r.get s) (z.place s.littleEndian k) := by
    intro k hk
    rw [State.readByte_ctrl (hbytes k (hsize ▸ hk)), Size.place_eq hsize]
  rw [s.memRead_memory a z (State.isDevice_ctrlAt ⟨hsize, hbytes⟩), State.bytesRead_of_bytes hread, r.low_get hsize]

end Sys2Proof.Machine
end

section
/-! Stores (20_memory.md R76, R96; 10_state.md R52; log entries 15 and 17): what a byte reads after a write to it or to
another one, and what a store at memory, at a control register and at a device changes. -/

namespace Sys2Proof.Machine

/-! ### One byte -/

theorem State.writeByte_memory {s : State} {a : Word} (h : ctrlByte s.platform a = none) (b : Byte) :
    s.writeByte a b = { s with mem := Memory.write s.mem a.toNat b } := by
  rw [State.writeByte, h]

theorem State.writeByte_ctrl {s : State} {a : Word} {r : CtrlReg} {k : Nat} (h : ctrlByte s.platform a = some (r, k))
    (b : Byte) : s.writeByte a b = r.set (withByteAt (r.get s) (r.place s.littleEndian k) b) s := by
  rw [State.writeByte, h]

@[simp] theorem State.writeByte_platform (s : State) (a : Word) (b : Byte) :
    (s.writeByte a b).platform = s.platform := by
  obtain ⟨_, _, _, _, _, _, _, _, h⟩ := State.writeByte_eq s a b; rw [h]

/-- A write leaves what the other bytes read as. -/
theorem State.readByte_writeByte_other (s : State) {a x : Word} (b : Byte) (hx : x ≠ a) :
    (s.writeByte a b).readByte x = s.readByte x := by
  cases ha : ctrlByte s.platform a with
  | none =>
    rw [State.writeByte_memory ha]
    cases hxc : ctrlByte s.platform x with
    | none =>
      rw [State.readByte_memory hxc, State.readByte_memory (by exact hxc)]
      exact Memory.read_write_other s.mem a.toNat b x.toNat (by simpa [BitVec.toNat_inj] using hx)
    | some q =>
      obtain ⟨r', k'⟩ := q
      rw [State.readByte_ctrl hxc, State.readByte_ctrl (by exact hxc)]
      cases r' <;> rfl
  | some p =>
    obtain ⟨r, k⟩ := p
    rw [State.writeByte_ctrl ha]
    cases hxc : ctrlByte s.platform x with
    | none => rw [State.readByte_memory hxc, State.readByte_memory (by simpa using hxc), CtrlReg.set_mem]
    | some q =>
      obtain ⟨r', k'⟩ := q
      rw [State.readByte_ctrl hxc, State.readByte_ctrl (r := r') (k := k') (by simpa using hxc),
        CtrlReg.set_littleEndian]
      by_cases hr : r' = r
      · subst hr
        have hoffsets : k' ≠ k := fun h => hx (ctrlByte_injective (h ▸ hxc) ha)
        exact r'.byteAt_get_set_other _ (ctrlByte_lt hxc) (ctrlByte_lt ha) hoffsets b s
      · rw [CtrlReg.get_set_other hr]

/-- What a byte written at an address reads as: a control register keeps the bits that it implements. -/
def State.kept (s : State) (a : Word) (b : Byte) : Byte :=
  match ctrlByte s.platform a with
  | some (r, k) => b &&& byteAt r.implemented (r.place s.littleEndian k)
  | none => b

/-- A byte written is read back. Memory has to be canonical where it is memory that is written. -/
theorem State.readByte_writeByte_same {s : State} {a : Word} (b : Byte)
    (hwf : ctrlByte s.platform a = none → Memory.wf s.mem = true) : (s.writeByte a b).readByte a = s.kept a b := by
  unfold State.kept
  cases ha : ctrlByte s.platform a with
  | none =>
    rw [State.writeByte_memory ha, State.readByte_memory (by exact ha)]
    exact (Memory.read_write s.mem a.toNat b a.toNat (hwf ha)).trans (if_pos rfl)
  | some p =>
    obtain ⟨r, k⟩ := p
    rw [State.writeByte_ctrl ha, State.readByte_ctrl (r := r) (k := k) (by simpa using ha), CtrlReg.set_littleEndian,
      r.get_set, byteAt_and, byteAt_withByteAt_same _ _ (r.place_lt _ (ctrlByte_lt ha))]

/-! ### Several bytes -/

theorem State.writeBytes_surroundings (s : State) (a : Word) (bs : List Byte) :
    (s.writeBytes a bs).surroundings = s.surroundings := by
  obtain ⟨_, _, _, _, _, _, _, _, h⟩ := State.writeBytes_eq bs s a; rw [h]; rfl

theorem State.kept_writeByte (s : State) (a : Word) (b : Byte) : (s.writeByte a b).kept = s.kept := by
  obtain ⟨_, _, _, _, _, _, _, _, h⟩ := State.writeByte_eq s a b; rw [h]; rfl

/-- An address outside a range of bytes is outside its tail and is not its first. -/
theorem outside_tail {x a : Word} {n : Nat} (h : ¬(x - a).toNat < n + 1) : x ≠ a ∧ ¬(x - (a + 1#32)).toNat < n := by
  constructor
  · rintro rfl
    simp at h
  · bv_omega

/-- An address in the tail of a range of bytes lies in the range. -/
theorem inside_of_tail {x a : Word} {n : Nat} (hn : n + 1 < 2 ^ 32) (h : (x - (a + 1#32)).toNat < n) :
    (x - a).toNat < n + 1 := by
  bv_omega

theorem State.readByte_writeBytes_outside (bs : List Byte) (s : State) {a x : Word} (hx : ¬(x - a).toNat < bs.length) :
    (s.writeBytes a bs).readByte x = s.readByte x := by
  induction bs generalizing s a with
  | nil => rfl
  | cons b rest ih =>
    obtain ⟨hfirst, hrest⟩ := outside_tail hx
    rw [State.writeBytes, ih _ hrest, State.readByte_writeByte_other s b hfirst]

/-- Bytes written are read back, each at its place. -/
theorem State.readByte_writeBytes (bs : List Byte) (s : State) (a : Word) {k : Nat} (hk : k < bs.length)
    (hlength : bs.length < 2 ^ 32)
    (hwf : ctrlByte s.platform (a + BitVec.ofNat 32 k) = none → Memory.wf s.mem = true) :
    (s.writeBytes a bs).readByte (a + BitVec.ofNat 32 k) = s.kept (a + BitVec.ofNat 32 k) bs[k] := by
  induction bs generalizing s a k with
  | nil => simp at hk
  | cons b rest ih =>
    rw [List.length_cons] at hlength hk
    rw [State.writeBytes]
    cases k with
    | zero =>
      have hout : ¬(a + BitVec.ofNat 32 0 - (a + 1#32)).toNat < rest.length := by bv_omega
      have ha : a + BitVec.ofNat 32 0 = a := by simp
      rw [State.readByte_writeBytes_outside rest _ hout]
      rw [ha] at hwf ⊢
      exact State.readByte_writeByte_same b hwf
    | succ j =>
      have hnext : a + BitVec.ofNat 32 (j + 1) = a + 1#32 + BitVec.ofNat 32 j := by bv_omega
      rw [hnext] at hwf ⊢
      have htail := ih (s.writeByte a b) (a + 1#32) (k := j) (by omega) (by omega) fun hmem =>
        State.wf_writeByte s a b (hwf (by simpa using hmem))
      rw [htail, State.kept_writeByte, List.getElem_cons_succ]

/-- Bytes written where no control register stands change memory alone. -/
theorem State.mapped_writeBytes_memory (bs : List Byte) (s : State) {a : Word} (hlength : bs.length < 2 ^ 32)
    (h : ∀ x, (x - a).toNat < bs.length → ctrlByte s.platform x = none) : (s.writeBytes a bs).mapped = s.mapped := by
  induction bs generalizing s a with
  | nil => rfl
  | cons b rest ih =>
    have hfirst : ctrlByte s.platform a = none := h a (by simp)
    have hrest := ih (s.writeByte a b) (a := a + 1#32) (Nat.lt_of_succ_lt hlength) fun x hx => by
      simpa using h x (inside_of_tail hlength hx)
    rw [State.writeBytes, hrest, State.writeByte_memory hfirst]
    rfl

/-- Bytes written within one control register store some value into it and do nothing else. -/
theorem State.writeBytes_ctrl (bs : List Byte) (s : State) {a : Word} {r : CtrlReg} (hlength : bs.length < 2 ^ 32)
    (h : ∀ x, (x - a).toNat < bs.length → ∃ k, ctrlByte s.platform x = some (r, k)) :
    ∃ w, s.writeBytes a bs = r.set w s := by
  induction bs generalizing s a with
  | nil => exact ⟨r.get s, (r.set_get s).symm⟩
  | cons b rest ih =>
    obtain ⟨k, hk⟩ := h a (by simp)
    obtain ⟨w, hw⟩ := ih (s.writeByte a b) (a := a + 1#32) (Nat.lt_of_succ_lt hlength) fun x hx => by
      simpa using h x (inside_of_tail hlength hx)
    exact ⟨w, by rw [State.writeBytes, hw, State.writeByte_ctrl hk, r.set_set]⟩

/-! ### A store -/

theorem State.memWrite_device {s : State} {a : Word} (h : s.isDevice a = true) (z : Size) (v : Word) :
    s.memWrite a z v = { s with deviceOut := s.deviceOut ++ [.write a z (z.low v)] } := by
  rw [State.memWrite, if_pos h]

theorem State.memWrite_memory {s : State} {a : Word} (h : s.isDevice a = false) (z : Size) (v : Word) :
    s.memWrite a z v = s.writeBytes a (bytesOf s.littleEndian z v) := by
  rw [State.memWrite, if_neg (by simp [h])]

@[simp] theorem State.memWrite_isDevice (s : State) (a : Word) (z : Size) (v x : Word) :
    (s.memWrite a z v).isDevice x = s.isDevice x := by
  simp [State.isDevice]

theorem bytesOf_length_lt (littleEndian : Bool) (z : Size) (v : Word) : (bytesOf littleEndian z v).length < 2 ^ 32 := by
  have := z.bytes_le
  rw [bytesOf_length]
  omega

/-- A store at no device reads back, but for the bits that a control register does not implement: `w` has the bytes that
are kept. -/
theorem State.memRead_memWrite {s : State} {a : Word} {z : Size} {v w : Word} (hdevice : s.isDevice a = false)
    (hwf : ∀ k < z.bytes, ctrlByte s.platform (a + BitVec.ofNat 32 k) = none → Memory.wf s.mem = true)
    (hkept : ∀ k < z.bytes, s.kept (a + BitVec.ofNat 32 k) (byteAt v (z.place s.littleEndian k)) =
      byteAt w (z.place s.littleEndian k)) : (s.memWrite a z v).memRead a z = z.low w := by
  rw [State.memRead_memory _ _ _ (by simpa using hdevice)]
  apply State.bytesRead_of_bytes
  intro k hk
  have hlength := bytesOf_length s.littleEndian z v
  rw [State.memWrite_littleEndian, State.memWrite_memory hdevice,
    State.readByte_writeBytes _ s a (hlength ▸ hk) (bytesOf_length_lt ..) (hwf k hk), ← hkept k hk]
  simp [bytesOf_eq]

/-- No byte outside the access changes (R76). -/
theorem State.readByte_memWrite_outside (s : State) {a x : Word} {z : Size} (v : Word) (hx : ¬inAccess a z x) :
    (s.memWrite a z v).readByte x = s.readByte x := by
  cases hdevice : s.isDevice a with
  | true => rw [State.memWrite_device hdevice]; rfl
  | false =>
    rw [State.memWrite_memory hdevice]
    exact State.readByte_writeBytes_outside _ s (by rwa [bytesOf_length])

theorem inAccess_offset (a : Word) {z : Size} {k : Nat} (hk : k < z.bytes) : inAccess a z (a + BitVec.ofNat 32 k) := by
  have := z.bytes_le
  unfold inAccess
  bv_omega

theorem State.plain.memWrite_mapped {s : State} {a : Word} {z : Size} (h : s.plain a z) (v : Word) :
    (s.memWrite a z v).mapped = s.mapped := by
  obtain ⟨hdevice, hmemory⟩ := h
  rw [State.memWrite_memory hdevice]
  refine State.mapped_writeBytes_memory _ s (bytesOf_length_lt ..) fun x hx => hmemory x ?_
  rwa [bytesOf_length] at hx

theorem State.plain.memRead_memWrite {s : State} {a : Word} {z : Size} (h : s.plain a z) (v : Word)
    (hwf : Memory.wf s.mem = true) : (s.memWrite a z v).memRead a z = z.low v := by
  obtain ⟨hdevice, hmemory⟩ := h
  refine State.memRead_memWrite hdevice (fun _ _ _ => hwf) fun k hk => ?_
  rw [State.kept, hmemory _ (inAccess_offset a hk)]

/-- A store to a whole control register at its own address and size (R52): the bytes land in that register alone, and it
reads back as the implemented bits of the value. -/
theorem State.ctrlAt.memWrite_eq {s : State} {a : Word} {z : Size} {r : CtrlReg} (h : s.ctrlAt a z r) (v : Word) :
    s.memWrite a z v = r.set v s := by
  have hdevice := State.isDevice_ctrlAt h
  have hread : (s.memWrite a z v).memRead a z = r.get (s.memWrite a z v) :=
    State.memRead_ctrlAt (by simpa [State.ctrlAt] using h)
  obtain ⟨hsize, hbytes⟩ := h
  have hback : (s.memWrite a z v).memRead a z = z.low (v &&& r.implemented) := by
    refine State.memRead_memWrite hdevice (fun k hk hnone => ?_) fun k hk => ?_
    · rw [hbytes k (hsize ▸ hk)] at hnone
      simp at hnone
    · rw [State.kept, hbytes k (hsize ▸ hk), byteAt_and, Size.place_eq hsize]
  obtain ⟨w, hw⟩ : ∃ w, s.memWrite a z v = r.set w s := by
    rw [State.memWrite_memory hdevice]
    refine State.writeBytes_ctrl _ s (bytesOf_length_lt ..) fun x hx => ⟨(x - a).toNat, ?_⟩
    rw [bytesOf_length, hsize] at hx
    have hoffset : a + BitVec.ofNat 32 (x - a).toNat = x := by bv_omega
    simpa only [hoffset] using hbytes _ hx
  have hkept : w &&& r.implemented = v &&& r.implemented := by
    calc w &&& r.implemented = z.low (v &&& r.implemented) := by rw [← r.get_set w s, ← hw, ← hread, hback]
      _ = v &&& r.implemented := by rw [← r.get_set v s, CtrlReg.low_get hsize]
  rw [hw, ← r.set_implemented w, hkept, r.set_implemented]

/-- What a store does to memory, to the control registers and to the devices. -/
theorem State.memWrite_effect (s : State) (a : Word) (z : Size) (v : Word) :
    StoreEffect s (s.memWrite a z v) a z v := by
  refine ⟨fun x => s.readByte_memWrite_outside v, fun h => ⟨h.memWrite_mapped v, h.memRead_memWrite v⟩,
    fun r h => congrArg State.mapped (h.memWrite_eq v), fun h => ?_, fun h => ?_⟩
  · rw [State.memWrite_memory h, State.writeBytes_surroundings]
  · rw [State.memWrite_device h]
    exact ⟨fun _ => rfl, rfl, rfl⟩

end Sys2Proof.Machine

namespace Sys2Proof

open Sys2Proof.Machine

/-- Settles O7: `State.memWrite_effect`, and the fields that no store changes. -/
theorem storesReadBack : Obligations.StoresReadBack := fun s a z v _ =>
  ⟨s.memWrite_effect a z v, s.memWrite_gpr a z v, s.memWrite_sr a z v, s.memWrite_system a z v, s.memWrite_pc a z v,
    s.memWrite_pending a z v⟩

end Sys2Proof
end

section
/-! Accesses, loads and the fetch (20_memory.md R75 to R79, R82, R86, R96; log entries 17 and 39). -/

namespace Sys2Proof.Machine

/-! ### Which accesses are allowed (R79, R82, R86) -/

theorem State.accessOk_iff (s : State) (k : AccessKind) (a : Word) (z : Size) :
    s.accessOk k a z = true ↔ a.toNat % z.bytes = 0 ∧ s.forbids k a z = false := by
  rw [State.accessOk, Bool.and_eq_true, aligned_iff, Bool.not_eq_true']

theorem State.forbids_of_no_map {s : State} (h : s.memMap = []) (k : AccessKind) (a : Word) (z : Size) :
    s.forbids k a z = false := by
  rw [State.forbids, h, List.any_nil]

/-- An access that is not forbidden meets no unmapped region (log entry 39). -/
theorem State.outside_unmapped {s : State} {k : AccessKind} {a : Word} {z : Size} (h : s.forbids k a z = false)
    {r : Region} (hr : r ∈ s.memMap) (hkind : r.kind = .unmapped) :
    a.toNat + z.bytes ≤ r.base ∨ r.base + r.bytes ≤ a.toNat := by
  have hrefuses : r.refuses s.md k z = true := by simp [Region.refuses, hkind]
  have hmeets : r.meets a z.bytes = false := by simpa [hrefuses] using List.any_eq_false.mp h r hr
  simp only [Region.meets, Bool.and_eq_false_iff, decide_eq_false_iff_not] at hmeets
  omega

/-! ### Reads (R75, R78, R96) -/

theorem State.answer_toNat (s : State) (z : Size) :
    (s.answer z).toNat = (s.deviceIn.headD (Config.freeWord s.freeCount)).toNat % 2 ^ (8 * z.bytes) :=
  z.low_toNat _

/-- A read of a device for which the host has no answer is recorded and uses up a free value (log entries 17 and 34). -/
theorem State.afterRead_device_unanswered {s : State} {a : Word} (h : s.isDevice a = true) (hin : s.deviceIn = [])
    (z : Size) :
    s.afterRead a z =
      { s with deviceOut := s.deviceOut ++ [.read a z (s.memRead a z)], freeCount := s.freeCount + 1 } := by
  rw [State.memRead_device s a z h, State.afterRead, if_pos h]
  simp only [hin, List.tail_nil, List.isEmpty_nil, if_true]

theorem Size.extend_byte (v : Word) : Size.byte.extend v = (v.setWidth 8).signExtend 32 := by
  rw [BitVec.setWidth_eq_extractLsb' (by decide)]
  rfl

theorem Size.extend_word (v : Word) : Size.word.extend v = (v.setWidth 16).signExtend 32 := by
  rw [BitVec.setWidth_eq_extractLsb' (by decide)]
  rfl

/-- Where the default platform puts the control registers (R52; log entry 2). -/
theorem State.family_ctrlAt {s : State} (h : s.platform = Platform.family) :
    s.ctrlAt 0xFFFFFFF0#32 .long .pteh ∧ s.ctrlAt 0xFFFFFFF4#32 .long .ptel ∧ s.ctrlAt 0xFFFFFFE0#32 .long .mmucr ∧
      s.ctrlAt 0xFFFFFFD8#32 .long .intevt ∧ s.ctrlAt 0xFFFFFFD0#32 .long .tra ∧
      s.ctrlAt 0xFFFFFFD4#32 .long .expevt ∧ s.ctrlAt 0xFFFFFF82#32 .byte .stbcr := by
  unfold State.ctrlAt
  rw [h]
  decide

theorem CtrlReg.get_tra_toNat (s : State) : (CtrlReg.tra.get s).toNat = 4 * s.tra.toNat := by
  simp only [CtrlReg.get, BitVec.toNat_shiftLeft, BitVec.toNat_setWidth, Nat.shiftLeft_eq]
  omega

/-! ### The fetch (R77) -/

/-- The fetch fails where its access is an address error: at an odd address, or where the map forbids it. -/
theorem State.fetch_eq_none {s : State} (h : s.pc.toNat % 2 = 1 ∨ s.forbids .fetch s.pc .word = true) :
    s.fetch = none := by
  rw [State.fetch, if_neg]
  intro hok
  obtain ⟨heven, hallowed⟩ := (s.accessOk_iff _ _ _).mp hok
  rcases h with hodd | hforbidden
  · exact absurd (hodd.symm.trans heven) (by decide)
  · exact absurd (hforbidden.symm.trans hallowed) (by decide)

theorem State.fetch_eq_some {s : State} (h : ¬(s.pc.toNat % 2 = 1 ∨ s.forbids .fetch s.pc .word = true)) :
    s.fetch = some (halfOfBytes s.littleEndian (s.readByte s.pc) (s.readByte (s.pc + 1#32))) := by
  obtain ⟨heven, hallowed⟩ := not_or.mp h
  have haligned : s.pc.toNat % Size.word.bytes = 0 := Nat.mod_two_ne_one.mp heven
  rw [State.fetch, if_pos ((s.accessOk_iff _ _ _).mpr ⟨haligned, Bool.eq_false_iff.mpr hallowed⟩)]

end Sys2Proof.Machine

namespace Sys2Proof

open Sys2Proof.Machine

/-- Settles O6, clause by clause: bytes, devices, sign extension, control registers and where they stand, and the
accesses that are allowed. -/
theorem readsAndAlignment : Obligations.ReadsAndAlignment := by
  refine ⟨?memory, ?device, fun v => ⟨Size.extend_byte v, Size.extend_word v, rfl⟩, fun s a z r => State.memRead_ctrlAt,
    ?family, ?access⟩
  case memory =>
    intro s a hdevice b
    have hfirst : s.readByte a = s.readByte (a + BitVec.ofNat 32 0) := by simp
    refine ⟨?_, ?_, ?_, fun z => s.afterRead_memory a z hdevice⟩ <;> rw [s.memRead_memory a _ hdevice]
    · rw [s.bytesRead_byte_toNat, hfirst]
    · rw [s.bytesRead_word_toNat, hfirst]
    · rw [s.bytesRead_long_toNat, hfirst]
  case device =>
    intro s a z hdevice
    have hread : s.memRead a z = s.answer z := s.memRead_device a z hdevice
    refine ⟨fun v rest hin => ⟨?_, ?_⟩, fun hin => ⟨?_, State.afterRead_device_unanswered hdevice hin z⟩⟩
    · rw [hread, s.answer_toNat, hin, List.headD_cons]
    · have hlow : s.memRead a z = z.low v := by rw [hread, State.answer, hin, List.headD_cons]
      rw [hlow, s.afterRead_device a z v rest hdevice hin]
    · rw [hread, s.answer_toNat, hin, List.headD_nil]
  case family =>
    intro s hfamily
    obtain ⟨hpteh, hptel, hmmucr, hintevt, htra, hexpevt, hstbcr⟩ := State.family_ctrlAt hfamily
    refine ⟨State.memRead_ctrlAt hpteh, State.memRead_ctrlAt hptel, State.memRead_ctrlAt hmmucr,
      State.memRead_ctrlAt hintevt, ?_, ?_, ?_⟩
    · rw [State.memRead_ctrlAt htra, CtrlReg.get_tra_toNat]
    · rw [State.memRead_ctrlAt hexpevt]
      exact BitVec.toNat_setWidth_of_le (by decide)
    · rw [State.memRead_ctrlAt hstbcr]
      exact BitVec.toNat_setWidth_of_le (by decide)
  case access =>
    intro s k a z
    rw [s.accessOk_iff]
    exact ⟨fun ⟨haligned, hallowed⟩ => ⟨haligned, fun r => State.outside_unmapped hallowed⟩,
      fun hmap => and_iff_left (State.forbids_of_no_map hmap k a z)⟩

/-- Settles O10: the step is `runInstruction`, whose fetch is an access of a word at pc. -/
theorem stepRaisesOnBadFetch : Obligations.StepRaisesOnBadFetch := by
  intro s hreset hrequest hmode
  have hrunning : s.afterInput.mode = .running := by rw [State.afterInput_mode, hmode]
  split
  · next hbad =>
    calc step s = runOrWait s.afterInput := step_eq_runOrWait hreset hrequest
      _ = runInstruction s.afterInput := runOrWait_of_running hrunning
      _ = .next (s.afterInput.raise (.addressError .fetch)) := runInstruction_of_no_fetch (State.fetch_eq_none hbad)
  · next hgood => exact ⟨_, State.fetch_eq_some hgood, halfOfBytes_toNat _ _ _⟩

end Sys2Proof
end

section
/-! Words and their fields (30_encoding.md R111, R116, R117): a word is its four fields put together, whichever format
writes it, so the decoder, which reads the four fields, gives back every instruction that the encoder writes. -/

namespace Sys2Proof

/-! ### The fields of a word -/

@[simp] theorem nibble_join_three (a b c d : BitVec 4) : nibble (join a b c d) 3 = a := by
  unfold nibble join
  rw [BitVec.extractLsb'_append_eq_of_le (by decide), BitVec.extractLsb'_append_eq_of_le (by decide)]
  exact BitVec.extractLsb'_append_eq_left

@[simp] theorem nibble_join_two (a b c d : BitVec 4) : nibble (join a b c d) 2 = b := by
  unfold nibble join
  rw [BitVec.extractLsb'_append_eq_of_le (by decide), BitVec.extractLsb'_append_eq_of_le (by decide)]
  exact BitVec.extractLsb'_append_eq_right

@[simp] theorem nibble_join_one (a b c d : BitVec 4) : nibble (join a b c d) 1 = c := by
  unfold nibble join
  rw [BitVec.extractLsb'_append_eq_of_le (by decide)]
  exact BitVec.extractLsb'_append_eq_right

@[simp] theorem nibble_join_zero (a b c d : BitVec 4) : nibble (join a b c d) 0 = d :=
  BitVec.extractLsb'_append_eq_right

theorem join_nibbles (w : Half) : join (nibble w 3) (nibble w 2) (nibble w 1) (nibble w 0) = w := by
  unfold join nibble
  rw [BitVec.extractLsb'_append_extractLsb'_eq_extractLsb' (by rfl),
    BitVec.extractLsb'_append_extractLsb'_eq_extractLsb' (by rfl),
    BitVec.extractLsb'_append_extractLsb'_eq_extractLsb' (by rfl)]
  exact BitVec.extractLsb'_eq_self

/-- An 8-bit field is two of the four fields. -/
theorem exists_eq_append_of_byte (low : BitVec 8) : ∃ c d : BitVec 4, low = c ++ d :=
  ⟨low.extractLsb' 4 4, low.extractLsb' 0 4, by
    rw [BitVec.extractLsb'_append_extractLsb'_eq_extractLsb' (by rfl)]
    exact BitVec.extractLsb'_eq_self.symm⟩

/-- A 12-bit displacement is three of the four fields. -/
theorem exists_eq_append_of_disp12 (low : BitVec 12) : ∃ b c d : BitVec 4, low = b ++ c ++ d :=
  ⟨low.extractLsb' 8 4, low.extractLsb' 4 4, low.extractLsb' 0 4, by
    rw [BitVec.extractLsb'_append_extractLsb'_eq_extractLsb' (by rfl),
      BitVec.extractLsb'_append_extractLsb'_eq_extractLsb' (by rfl)]
    exact BitVec.extractLsb'_eq_self.symm⟩

@[simp] theorem joinByte_append (a b c d : BitVec 4) : joinByte a b (c ++ d) = join a b c d := by
  unfold joinByte join
  rw [BitVec.append_assoc (x₁ := a ++ b), BitVec.cast_eq]

@[simp] theorem joinDisp12_append (a b c d : BitVec 4) : joinDisp12 a (b ++ c ++ d) = join a b c d := by
  unfold joinDisp12 join
  rw [BitVec.append_assoc (x₁ := a ++ b), BitVec.append_assoc (x₁ := a), BitVec.append_assoc (x₁ := b)]
  rfl

/-! ### Decoding by fields -/

theorem decode_eq_ok_iff {w : Half} {i : Instr} :
    decode w = .ok i ↔ decodeNibbles (nibble w 3) (nibble w 2) (nibble w 1) (nibble w 0) = some i := by
  unfold decode
  split <;> simp [*]

theorem decode_join_eq_undefinedCode_iff {a b c d : BitVec 4} :
    decode (join a b c d) = .error (.undefinedCode (join a b c d)) ↔ decodeNibbles a b c d = none := by
  unfold decode
  simp only [nibble_join_three, nibble_join_two, nibble_join_one, nibble_join_zero]
  split <;> simp [*]

theorem decode_join {a b c d : BitVec 4} {i : Instr} (h : decodeNibbles a b c d = some i) :
    decode (join a b c d) = .ok i := by
  simpa only [decode_eq_ok_iff, nibble_join_three, nibble_join_two, nibble_join_one, nibble_join_zero] using h

/-- An 8-bit operand that the decoder puts together from the last two fields is the one in the word. -/
theorem decode_joinByte {a b : BitVec 4} {f : BitVec 8 → Instr} (low : BitVec 8)
    (h : ∀ c d : BitVec 4, decodeNibbles a b c d = some (f (c ++ d))) : decode (joinByte a b low) = .ok (f low) := by
  obtain ⟨c, d, rfl⟩ := exists_eq_append_of_byte low
  rw [joinByte_append]
  exact decode_join (h c d)

/-- A displacement that the decoder puts together from the last three fields is the one in the word. -/
theorem decode_joinDisp12 {a : BitVec 4} {f : BitVec 12 → Instr} (low : BitVec 12)
    (h : ∀ b c d : BitVec 4, decodeNibbles a b c d = some (f (b ++ c ++ d))) :
    decode (joinDisp12 a low) = .ok (f low) := by
  obtain ⟨b, c, d, rfl⟩ := exists_eq_append_of_disp12 low
  rw [joinDisp12_append]
  exact decode_join (h b c d)

/-- Settles O1, by the format of the encoding: the decoder's answer for the fields of each row of R123 is the row's
instruction. -/
theorem decodeOfEncode : Obligations.DecodeOfEncode := by
  intro i
  cases i with
  | movImm imm n => exact decode_joinByte (f := (.movImm · n)) imm fun _ _ => rfl
  | addImm imm n => exact decode_joinByte (f := (.addImm · n)) imm fun _ _ => rfl
  | movWLoadPc disp n => exact decode_joinByte (f := (.movWLoadPc · n)) disp fun _ _ => rfl
  | movLLoadPc disp n => exact decode_joinByte (f := (.movLLoadPc · n)) disp fun _ _ => rfl
  | movBStoreGbr low | movWStoreGbr low | movLStoreGbr low | movBLoadGbr low | movWLoadGbr low | movLLoadGbr low
  | mova low | cmpEqImm low | andImm low | andB low | orImm low | orB low | tstImm low | tstB low | xorImm low
  | xorB low | bf low | bfS low | bt low | btS low | trapa low => exact decode_joinByte low fun _ _ => rfl
  | bra disp | bsr disp => exact decode_joinDisp12 disp fun _ _ _ => rfl
  | _ => exact decode_join rfl

/-- Settles O4: each of the words is the encoding of the instruction printed beside it. -/
theorem specWordsDecode : Obligations.SpecWordsDecode :=
  ⟨decodeOfEncode (.movWLoadIdx 2#4 1#4), decodeOfEncode (.movBStoreDisp 15#4 1#4),
    decodeOfEncode (.addImm 0xFE#8 3#4), decodeOfEncode (.macW 0#4 1#4), decodeOfEncode (.andB 0x80#8),
    decodeOfEncode (.shad 1#4 2#4), decodeOfEncode (.bra 0x7FF#12), decodeOfEncode (.stcLR2Bank 15#4),
    decodeOfEncode (.trapa 0xFF#8)⟩

end Sys2Proof
end

section
/-! What the decoder answers for the four fields of any word, group by group (30_encoding.md R117): an instruction whose
encoding is that word, or nothing where R124 lists the word; and what a step makes of such a word (R125). -/

namespace Sys2Proof

open Sys2Proof.Machine

/-- What may be answered for the word with these fields: an instruction whose encoding is that word, which R124 does not
list, or nothing for a word that R124 lists. -/
def Answers (a n f l : BitVec 4) : Option Instr → Prop
  | .some i => encode i = join a n f l ∧ undefinedCode a n f l = false
  | .none => undefinedCode a n f l = true

@[simp] theorem answers_some {a n f l : BitVec 4} {i : Instr} :
    Answers a n f l (some i) ↔ encode i = join a n f l ∧ undefinedCode a n f l = false := Iff.rfl

@[simp] theorem answers_none {a n f l : BitVec 4} : Answers a n f l none ↔ undefinedCode a n f l = true := Iff.rfl

/-! ### The groups

In the last arm of each group the fields that the arms before it exclude leave one or two values. In every other arm an
instruction's fields are written out, and where nothing is answered the excluded fields leave the range of R124. -/

theorem decodeGroup0_answers (n f l : BitVec 4) : Answers 0x0#4 n f l (decodeGroup0 n f l) := by
  fun_cases decodeGroup0 n f l
  case case57 =>
    obtain rfl | rfl : l = 0x0#4 ∨ l = 0x1#4 := by simp only [imp_false] at *; bv_omega
    · rfl
    · rfl
  all_goals simp_all [encode, undefinedCode]
  all_goals bv_omega

theorem decodeGroup2_answers (n f l : BitVec 4) : Answers 0x2#4 n f l (decodeGroup2 n f l) := by
  fun_cases decodeGroup2 n f l
  case case16 =>
    obtain rfl : l = 0x3#4 := by simp only [imp_false] at *; bv_omega
    rfl
  all_goals exact ⟨rfl, rfl⟩

theorem decodeGroup3_answers (n f l : BitVec 4) : Answers 0x3#4 n f l (decodeGroup3 n f l) := by
  fun_cases decodeGroup3 n f l
  case case15 =>
    obtain rfl | rfl : l = 0x1#4 ∨ l = 0x9#4 := by simp only [imp_false] at *; bv_omega
    · rfl
    · rfl
  all_goals exact ⟨rfl, rfl⟩

theorem decodeGroup4_answers (n f l : BitVec 4) : Answers 0x4#4 n f l (decodeGroup4 n f l) := by
  fun_cases decodeGroup4 n f l
  case case84 =>
    obtain rfl : l = 0xF#4 := by simp only [imp_false] at *; bv_omega
    exact ⟨rfl, rfl⟩
  all_goals simp_all [encode, undefinedCode]
  all_goals bv_omega

theorem decodeGroup6_answers (n f l : BitVec 4) : Answers 0x6#4 n f l (decodeGroup6 n f l) := by
  fun_cases decodeGroup6 n f l
  case case16 =>
    obtain rfl : l = 0xF#4 := by simp only [imp_false] at *; bv_omega
    exact ⟨rfl, rfl⟩
  all_goals exact ⟨rfl, rfl⟩

theorem decodeGroup8_answers (n f l : BitVec 4) : Answers 0x8#4 n f l (decodeGroup8 n f l) := by
  fun_cases decodeGroup8 n f l
  all_goals simp_all [encode, undefinedCode]
  all_goals bv_omega

theorem decodeGroupC_answers (n f l : BitVec 4) : Answers 0xC#4 n f l (decodeGroupC n f l) := by
  fun_cases decodeGroupC n f l
  case case16 =>
    obtain rfl : n = 0xF#4 := by simp only [imp_false] at *; bv_omega
    exact ⟨joinByte_append _ _ _ _, rfl⟩
  all_goals exact ⟨joinByte_append _ _ _ _, rfl⟩

theorem decodeNibbles_answers (a n f l : BitVec 4) : Answers a n f l (decodeNibbles a n f l) := by
  fun_cases decodeNibbles a n f l
  · exact decodeGroup0_answers n f l
  · exact ⟨rfl, rfl⟩
  · exact decodeGroup2_answers n f l
  · exact decodeGroup3_answers n f l
  · exact decodeGroup4_answers n f l
  · exact ⟨rfl, rfl⟩
  · exact decodeGroup6_answers n f l
  · exact ⟨joinByte_append _ _ _ _, rfl⟩
  · exact decodeGroup8_answers n f l
  · exact ⟨joinByte_append _ _ _ _, rfl⟩
  · exact ⟨joinDisp12_append _ _ _ _, rfl⟩
  · exact ⟨joinDisp12_append _ _ _ _, rfl⟩
  · exact decodeGroupC_answers n f l
  · exact ⟨joinByte_append _ _ _ _, rfl⟩
  · exact ⟨joinByte_append _ _ _ _, rfl⟩
  · obtain rfl : a = 0xF#4 := by simp only [imp_false] at *; bv_omega
    rfl

/-! ### Whole words, and the step that fetches one -/

/-- Settles O2: what the decoder answers for a word's fields encodes to these fields put together. -/
theorem encodeOfDecode : Obligations.EncodeOfDecode := by
  intro w i hdecode
  have hanswer := decodeNibbles_answers (nibble w 3) (nibble w 2) (nibble w 1) (nibble w 0)
  rw [decode_eq_ok_iff.mp hdecode, answers_some, join_nibbles] at hanswer
  obtain ⟨hencode, _⟩ := hanswer
  exact hencode

/-- Settles O3: the decoder answers nothing exactly where R124 lists the word. -/
theorem undefinedWordsAreTheSpecsList : Obligations.UndefinedWordsAreTheSpecsList := by
  intro a n f l
  rw [decode_join_eq_undefinedCode_iff]
  have hanswer := decodeNibbles_answers a n f l
  cases hfields : decodeNibbles a n f l with
  | none =>
    rw [hfields, answers_none] at hanswer
    exact iff_of_true rfl hanswer
  | some i =>
    rw [hfields, answers_some] at hanswer
    obtain ⟨_, hunlisted⟩ := hanswer
    simp [hunlisted]

/-- Settles O9: the step is `runInstruction`, which raises on a word that does not decode. -/
theorem stepRaisesOnUndefinedCode : Obligations.StepRaisesOnUndefinedCode := by
  intro s w e hreset hrequest hmode hfetch hdecode
  have hrunning : s.afterInput.mode = .running := by rw [State.afterInput_mode, hmode]
  calc step s = runOrWait s.afterInput := step_eq_runOrWait hreset hrequest
    _ = runInstruction s.afterInput := runOrWait_of_running hrunning
    _ = .next s.afterInput.raiseIllegal := runInstruction_of_undefined hfetch hdecode
    _ = .next (s.afterInput.raise (if s.pending = none then .illegal else .slotIllegal)) := by
      rw [State.raiseIllegal, State.afterInput_pending]
      cases s.pending <;> rfl

end Sys2Proof
end

section
/-! What an instruction leaves behind when it completes (10_state.md R41; 20_memory.md R75, R76, R96): the frame of each
named update, composed along a meaning and closed by the advance. -/

namespace Sys2Proof.Machine

/-! ### Frames of the updates -/

theorem Leaves.refl (s : State) : Leaves s s s.gpr.read s.sr s.system :=
  ⟨fun _ => rfl, rfl, rfl, rfl, rfl, fun _ => rfl⟩

/-- Counted from the state after a read, the read itself changes nothing. -/
theorem Leaves.afterRead (s : State) (a : Word) (z : Size) :
    Leaves (s.afterRead a z) (s.afterRead a z) s.gpr.read s.sr s.system := by
  simpa using Leaves.refl (s.afterRead a z)

theorem Leaves.setReg {s t : State} {regs : PhysReg → Word} {sr : Word} {sys : SystemRegs}
    (h : Leaves s t regs sr sys) (n : RegNum) (v : Word) :
    Leaves s (t.setReg n v) (Function.update regs (physReg sr n) v) sr sys := by
  obtain ⟨hregs, hsr, hsystem, hmapped, hsurroundings, hmemory⟩ := h
  refine ⟨fun p => ?_, hsr, hsystem, hmapped, hsurroundings, hmemory⟩
  rw [State.setReg_read, State.regsWith, hsr, funext hregs]

theorem Leaves.advance {s t : State} {regs : PhysReg → Word} {sr : Word} {sys : SystemRegs}
    (h : Leaves s t regs sr sys) : Leaves s t.advance regs sr sys := h

theorem StoreEffect.setReg {s t : State} {a : Word} {z : Size} {v : Word} (h : StoreEffect s t a z v) (n : RegNum)
    (w : Word) : StoreEffect s (t.setReg n w) a z v := h

theorem StoreEffect.advance {s t : State} {a : Word} {z : Size} {v : Word} (h : StoreEffect s t a z v) :
    StoreEffect s t.advance a z v := h

/-- The advance goes where the state before the instruction says, once pc and the pending branch are still its own. -/
theorem Advanced.of_advance {s t : State} (hpc : t.pc = s.pc) (hpending : t.pending = s.pending) :
    Advanced s t.advance := by
  simp [Advanced, hpc, hpending]

/-! ### Instructions that end in the advance -/

section
variable {i : Instr} {s t : State}

theorem Completes.of_advance {regs : PhysReg → Word} {sr : Word} {sys : SystemRegs}
    (hexec : exec i s = .next t.advance) (hleaves : Leaves s t regs sr sys) (hpc : t.pc = s.pc)
    (hpending : t.pending = s.pending) : Completes i s regs sr sys :=
  ⟨t.advance, hexec, hleaves.advance, .of_advance hpc hpending⟩

theorem CompletesRead.of_advance {a : Word} {z : Size} {regs : PhysReg → Word} {sr : Word} {sys : SystemRegs}
    (hexec : exec i s = .next t.advance) (hleaves : Leaves (s.afterRead a z) t regs sr sys) (hpc : t.pc = s.pc)
    (hpending : t.pending = s.pending) : CompletesRead i s a z regs sr sys :=
  ⟨t.advance, hexec, hleaves.advance, .of_advance hpc hpending⟩

theorem Completes.of_putReg {n : RegNum} {v : Word} (hexec : exec i s = putReg n v s) :
    Completes i s (s.regsWith n v) s.sr s.system :=
  .of_advance hexec ((Leaves.refl s).setReg n v) rfl rfl

/-- A store, and nothing else but the advance. -/
theorem CompletesStore.of_memWrite {a : Word} {z : Size} {v : Word}
    (hexec : exec i s = .next (s.memWrite a z v).advance) : CompletesStore i s s.gpr.read s.sr a z v :=
  ⟨_, hexec, fun _ => by simp, by simp, by simp, (s.memWrite_effect a z v).advance, .of_advance (by simp) (by simp)⟩

/-- A store, then a register written. -/
theorem CompletesStore.of_memWrite_setReg {a : Word} {z : Size} {v : Word} {n : RegNum} {w : Word}
    (hexec : exec i s = .next ((s.memWrite a z v).setReg n w).advance) :
    CompletesStore i s (s.regsWith n w) s.sr a z v :=
  ⟨_, hexec, fun _ => by simp [State.regsWith], by simp, by simp, ((s.memWrite_effect a z v).setReg n w).advance,
    .of_advance (by simp) (by simp)⟩

/-- An instruction that checks one access completes where the access is admitted and raises AddressError where it is
not. -/
theorem completes_or_raises_of_checked {k : AccessKind} {a : Word} {z : Size} {rest : Result} {completes : Prop}
    (hexec : exec i s = checked s k a z rest) (hadmitted : exec i s = rest → completes) :
    if s.accessOk k a z then completes else Raises i s (.addressError k) := by
  split
  · next hok => exact hadmitted (hexec.trans (checked_ok s k a z rest hok))
  · next hrefused => exact hexec.trans (checked_refused s k a z rest (Bool.eq_false_iff.mpr hrefused))

end

end Sys2Proof.Machine
end

section
/-! The data transfer instructions between registers (40_data_transfer.md R154, R155, R188 to R192), and the address
forms as sums (30_encoding.md R115; 10_state.md R42). -/

namespace Sys2Proof.Machine

/-! ### Effective addresses (R114, R115) -/

theorem dispAddr_eq {w : Nat} (base : Word) (disp : BitVec w) (z : Size) :
    dispAddr base disp z = base + BitVec.ofNat 32 (disp.toNat * z.bytes) := by
  rw [dispAddr, Size.step, ← BitVec.ofNat_toNat, ← BitVec.ofNat_mul]

theorem State.pcOp_outside_slot {s : State} (h : s.pending = none) : s.pcOp = s.pc + 4#32 := by
  rw [State.pcOp, h]

theorem State.pcOp_in_slot {s : State} {target : Word} (h : s.pending = some target) : s.pcOp = target + 2#32 := by
  rw [State.pcOp, h]

theorem State.pcWord_eq (s : State) (disp : BitVec 8) :
    s.pcWord disp = s.pcOp + BitVec.ofNat 32 (disp.toNat * 2) :=
  dispAddr_eq s.pcOp disp .word

theorem State.pcLong_eq (s : State) (disp : BitVec 8) :
    s.pcLong disp = (s.pcOp &&& 0xFFFFFFFC#32) + BitVec.ofNat 32 (disp.toNat * 4) :=
  dispAddr_eq _ disp .long

/-! ### Parts of a word put together -/

theorem ofFlag_t (s : State) : ofFlag s.t = s.sr &&& 1#32 := by
  rw [State.t, Sr.t, ofFlag, BitVec.and_one_eq_setWidth_ofBool_getLsbD]
  cases s.sr.getLsbD 0 <;> rfl

/-- The two low bytes exchanged (R190). -/
theorem swapped_bytes_eq (v : Word) :
    (v &&& 0xFFFF0000#32) ||| ((v &&& 0xFF#32) <<< 8) ||| ((v &&& 0xFF00#32) >>> 8) =
      v.extractLsb' 16 16 ++ v.extractLsb' 0 8 ++ v.extractLsb' 8 8 := by
  apply BitVec.eq_of_getLsbD_eq
  intro j hj
  simp only [BitVec.getLsbD_append]
  interval_cases j <;> simp

/-- The low half of one word above the high half of another (R191, R192). -/
theorem joined_halves_eq (a b : Word) :
    (a <<< 16) ||| ((b >>> 16) &&& 0xFFFF#32) = a.extractLsb' 0 16 ++ b.extractLsb' 16 16 := by
  apply BitVec.eq_of_getLsbD_eq
  intro j hj
  simp only [BitVec.getLsbD_append]
  interval_cases j <;> simp

/-- A half shifted up leaves nothing for the mask of the upper half to clear. -/
theorem shifted_half_and_mask (a : Word) : (a <<< 16) &&& 0xFFFF0000#32 = a <<< 16 := by
  apply BitVec.eq_of_getLsbD_eq
  intro j hj
  interval_cases j <;> simp

end Sys2Proof.Machine

namespace Sys2Proof

open Sys2Proof.Machine

/-- Settles O19: each of the six puts one value into Rn, and that value is its rule's. -/
theorem registerTransfers : Obligations.RegisterTransfers := by
  intro s m n imm
  refine ⟨.of_putReg rfl, .of_putReg rfl, ?movt, ?swapB, ?swapW, ?xtrct⟩
  case movt =>
    rw [← ofFlag_t]
    exact .of_putReg rfl
  case swapB =>
    rw [← swapped_bytes_eq]
    exact .of_putReg rfl
  case swapW =>
    rw [← joined_halves_eq]
    exact .of_putReg rfl
  case xtrct =>
    rw [← joined_halves_eq, ← shifted_half_and_mask]
    exact .of_putReg rfl

/-- Settles O20: MOVA puts the address of a PC-relative longword into R0. -/
theorem movaAddsToTheMaskedPc : Obligations.MovaAddsToTheMaskedPc := by
  intro s disp
  have hword : s.pcWord disp = s.pcOp + BitVec.ofNat 32 (2 * disp.toNat) := Nat.mul_comm 2 _ ▸ s.pcWord_eq disp
  have hlong : s.pcLong disp = (s.pcOp &&& 0xFFFFFFFC#32) + BitVec.ofNat 32 (4 * disp.toNat) :=
    Nat.mul_comm 4 _ ▸ s.pcLong_eq disp
  refine ⟨State.pcOp_outside_slot, fun _ => State.pcOp_in_slot, fun n => ⟨hword, hlong, rfl, rfl⟩, ?_⟩
  rw [← hlong]
  exact .of_putReg rfl

end Sys2Proof
end

section
/-! The loads (40_data_transfer.md R156, R157, R161 to R163, R167 to R169, R173 to R175, R179 to R181, R185 to R187). -/

namespace Sys2Proof.Machine

/-! ### Which instruction is which load -/

theorem exec_of_loadForm {s : State} {i : Instr} {z : Size} {a : Word} {n : RegNum}
    (h : loadForm s i = some (z, a, n)) : exec i s = load z a n s := by
  unfold loadForm at h
  split at h <;> cases h <;> rfl

theorem exec_of_baseLoadForm {s : State} {i : Instr} {z : Size} {a : Word} {n : RegNum}
    (h : baseLoadForm s i = some (z, a, n)) : exec i s = load z a n s := by
  unfold baseLoadForm at h
  split at h <;> cases h <;> rfl

theorem exec_of_postIncForm {i : Instr} {z : Size} {m n : RegNum} (h : postIncForm i = some (z, m, n)) (s : State) :
    exec i s = loadPostInc z m n s := by
  unfold postIncForm at h
  split at h <;> cases h <;> rfl

/-! ### What a load does -/

section
variable {i : Instr} {s : State} {z : Size}

theorem completes_or_raises_of_load {a : Word} {n : RegNum} (hexec : exec i s = load z a n s) :
    if s.accessOk .read a z then CompletesRead i s a z (s.regsWith n (z.extend (s.memRead a z))) s.sr s.system
    else Raises i s (.addressError .read) :=
  completes_or_raises_of_checked hexec fun hrest =>
    .of_advance hrest ((Leaves.afterRead s a z).setReg n _) (by simp) (by simp)

/-- The registers after a load with post-increment: the datum is written last, so it stays when both are one (R81). -/
theorem update_update_physReg (s : State) (m n : RegNum) (x y : Word) :
    Function.update (Function.update s.gpr.read (physReg s.sr m) x) (physReg s.sr n) y =
      if n = m then s.regsWith n y else Function.update (s.regsWith n y) (physReg s.sr m) x := by
  split
  · next hsame => rw [hsame, Function.update_idem, State.regsWith]
  · next hdifferent =>
    have hplaces : physReg s.sr m ≠ physReg s.sr n := mt (physReg_injective s.sr m n).mp (Ne.symm hdifferent)
    rw [Function.update_comm hplaces, State.regsWith]

theorem completes_or_raises_of_loadPostInc {m n : RegNum} (hexec : exec i s = loadPostInc z m n s) :
    if s.accessOk .read (s.reg m) z then
      CompletesRead i s (s.reg m) z
        (if n = m then s.regsWith n (z.extend (s.memRead (s.reg m) z))
         else Function.update (s.regsWith n (z.extend (s.memRead (s.reg m) z))) (physReg s.sr m)
          (s.reg m + BitVec.ofNat 32 z.bytes)) s.sr s.system
    else Raises i s (.addressError .read) :=
  completes_or_raises_of_checked hexec fun hrest => by
    rw [← update_update_physReg]
    exact .of_advance hrest (((Leaves.afterRead s (s.reg m) z).setReg m _).setReg n _) (by simp) (by simp)

end

end Sys2Proof.Machine

namespace Sys2Proof

open Sys2Proof.Machine

/-- Settles O21: each form is a load, and its address a sum. -/
theorem loads : Obligations.Loads :=
  ⟨fun _ _ _ _ _ hform => completes_or_raises_of_load (exec_of_loadForm hform),
    fun s m disp z => ⟨dispAddr_eq (s.reg m) disp z, rfl⟩⟩

/-- Settles O22: each form is a load, and its address a sum. -/
theorem baseRelativeLoads : Obligations.BaseRelativeLoads :=
  ⟨fun _ _ _ _ _ hform => completes_or_raises_of_load (exec_of_baseLoadForm hform),
    fun s disp z => ⟨dispAddr_eq s.gbr disp z, s.pcWord_eq disp, s.pcLong_eq disp⟩⟩

/-- Settles O23: each form is a load with post-increment. -/
theorem postIncrementLoads : Obligations.PostIncrementLoads :=
  fun s _ _ _ _ hform => completes_or_raises_of_loadPostInc (exec_of_postIncForm hform s)

end Sys2Proof
end

section
/-! The stores (40_data_transfer.md R158 to R160, R164 to R166, R170 to R172, R176 to R178, R182 to R184; log entries 15
and 17). -/

namespace Sys2Proof.Machine

/-! ### Which instruction is which store -/

theorem exec_of_storeForm {s : State} {i : Instr} {z : Size} {a : Word} {m : RegNum}
    (h : storeForm s i = some (z, a, m)) : exec i s = store z a m s := by
  unfold storeForm at h
  split at h <;> cases h <;> rfl

theorem exec_of_preDecForm {i : Instr} {z : Size} {m n : RegNum} (h : preDecForm i = some (z, m, n)) (s : State) :
    exec i s = storePreDec z m n s := by
  unfold preDecForm at h
  split at h <;> cases h <;> rfl

/-! ### What a store does -/

section
variable {i : Instr} {s : State} {z : Size}

theorem completes_or_raises_of_store {a : Word} {m : RegNum} (hexec : exec i s = store z a m s) :
    if s.accessOk .write a z then CompletesStore i s s.gpr.read s.sr a z (s.reg m)
    else Raises i s (.addressError .write) :=
  completes_or_raises_of_checked hexec .of_memWrite

theorem completes_or_raises_of_storePreDec {m n : RegNum} (hexec : exec i s = storePreDec z m n s) :
    if s.accessOk .write (s.preDec n z) z then
      CompletesStore i s (s.regsWith n (s.preDec n z)) s.sr (s.preDec n z) z (s.reg m)
    else Raises i s (.addressError .write) :=
  completes_or_raises_of_checked hexec .of_memWrite_setReg

end

end Sys2Proof.Machine

namespace Sys2Proof

open Sys2Proof.Machine

/-- Settles O24: each form is a store. -/
theorem stores : Obligations.Stores :=
  fun _ _ _ _ _ hform => completes_or_raises_of_store (exec_of_storeForm hform)

/-- Settles O25: each form is a store with pre-decrement, at the address below Rn. -/
theorem preDecrementStores : Obligations.PreDecrementStores :=
  fun s _ _ _ _ hform => ⟨rfl, completes_or_raises_of_storePreDec (exec_of_preDecForm hform s)⟩

end Sys2Proof
end

section
/-! PREF, SLEEP and LDTLB (40_data_transfer.md R196; 45_system_control.md R370, R372; 10_state.md R53; log entries 14
and 19): what the TLB holds after a write, and what the power-down leaves. -/

namespace Sys2Proof.Machine

/-! ### The TLB (R53) -/

theorem Tlb.find_cons (x : TlbEntry) (rest : List TlbEntry) (index way : Nat) :
    Tlb.find (x :: rest) index way =
      if x.index = index ∧ x.way = way then some x else Tlb.find rest index way := by
  by_cases hx : x.index = index ∧ x.way = way
  · simp [Tlb.find, hx]
  · simp [Tlb.find, ← Bool.decide_and, hx]

/-- A write puts its entry at the entry's own place and leaves every other place as it was. -/
theorem Tlb.find_write (l : List TlbEntry) (e : TlbEntry) (index way : Nat) :
    Tlb.find (Tlb.write l e) index way =
      if e.index = index ∧ e.way = way then some e else Tlb.find l index way := by
  induction l with
  | nil => exact Tlb.find_cons e [] index way
  | cons x rest ih =>
    rw [Tlb.write]
    split
    · exact Tlb.find_cons e _ index way
    · next hnotBefore =>
      split
      · next hbefore =>
        rw [Tlb.before_iff] at hbefore
        rw [Tlb.find_cons, Tlb.find_cons, ih]
        by_cases hx : x.index = index ∧ x.way = way
        · rw [if_pos hx, if_pos hx, if_neg (by omega)]
        · rw [if_neg hx, if_neg hx]
      · next hnotAfter =>
        obtain ⟨hindex, hway⟩ := Tlb.same_place e x (Bool.eq_false_iff.mpr hnotBefore) (Bool.eq_false_iff.mpr hnotAfter)
        rw [Tlb.find_cons, Tlb.find_cons, hindex, hway]
        by_cases hx : x.index = index ∧ x.way = way
        · rw [if_pos hx, if_pos hx]
        · rw [if_neg hx, if_neg hx, if_neg hx]

theorem State.tlbHasEntry_iff (s : State) :
    s.tlbHasEntry = true ↔ s.rc.toNat < s.platform.tlbWays ∧ 0 < s.platform.tlbEntries := by
  simp [State.tlbHasEntry]

/-- The default platform has every way that the two bits of MMUCR.RC can name. -/
theorem State.tlbHasEntry_family {s : State} (h : s.platform = Platform.family) : s.tlbHasEntry = true := by
  rw [s.tlbHasEntry_iff, h]
  exact ⟨s.rc.isLt, by decide⟩

/-- After LDTLB the entry that PTEH and MMUCR.RC name holds PTEH and PTEL where the platform has it (log entry 19). -/
theorem State.find_loadTlb (s : State) (index way : Nat) :
    Tlb.find s.loadTlb.tlb index way =
      if index = s.tlbIndex ∧ way = s.rc.toNat ∧ index < s.platform.tlbEntries ∧ way < s.platform.tlbWays then
        some { index := index, way := way, tag := s.pteh, data := s.ptel }
      else Tlb.find s.tlb index way := by
  have hindex : 0 < s.platform.tlbEntries → s.tlbIndex < s.platform.tlbEntries := Nat.mod_lt _
  rw [State.loadTlb_tlb]
  by_cases hentry : s.tlbHasEntry = true
  · obtain ⟨hway, hentries⟩ := s.tlbHasEntry_iff.mp hentry
    rw [if_pos hentry, Tlb.find_write]
    by_cases hplace : s.tlbEntry.index = index ∧ s.tlbEntry.way = way
    · obtain ⟨rfl, rfl⟩ := hplace
      rw [if_pos ⟨rfl, rfl⟩, if_pos ⟨rfl, rfl, hindex hentries, hway⟩]
      rfl
    · rw [if_neg hplace, if_neg fun ⟨hi, hw, _⟩ => hplace ⟨hi.symm, hw.symm⟩]
  · have hlacks : ¬(index = s.tlbIndex ∧ way = s.rc.toNat ∧ index < s.platform.tlbEntries ∧
        way < s.platform.tlbWays) := fun ⟨_, hw, hindexed, hwayed⟩ =>
      hentry (s.tlbHasEntry_iff.mpr ⟨hw ▸ hwayed, Nat.zero_lt_of_lt hindexed⟩)
    rw [if_neg hentry, if_neg hlacks]

end Sys2Proof.Machine

namespace Sys2Proof

open Sys2Proof.Machine

/-- Settles O26: in privileged mode SLEEP advances into the power-down state and LDTLB writes one entry and advances;
PREF only advances. -/
theorem prefSleepLdtlb : Obligations.PrefSleepLdtlb := by
  refine fun s => ⟨fun n => .of_advance rfl (Leaves.refl s) rfl rfl, fun hmd => ⟨?sleep, ?ldtlb⟩, rfl, rfl, rfl,
    fun _ => State.tlbHasEntry_family⟩
  case sleep =>
    exact ⟨s.advance.powerDown, privileged_md s _ hmd, rfl, rfl, rfl, rfl, rfl, rfl, rfl, rfl, rfl⟩
  case ldtlb =>
    exact ⟨s.loadTlb.advance, privileged_md s _ hmd, rfl, rfl, rfl, rfl, rfl, rfl, .of_advance rfl rfl,
      fun _ => s.find_loadTlb⟩

end Sys2Proof
end

section
/-! What the arithmetic instructions leave behind beside a register: SR with new flags, and the accumulator
(10_state.md R26, R32, R34; 41_arithmetic.md). -/

namespace Sys2Proof.Machine

/-! ### Frames of the flags and of the accumulator -/

section
variable {s t : State} {regs : PhysReg → Word} {sr : Word} {sys : SystemRegs} (h : Leaves s t regs sr sys)
include h

theorem Leaves.sr_eq : t.sr = sr := h.2.1

theorem Leaves.setSr (v : Word) : Leaves s (t.setSr v) regs v sys := by
  obtain ⟨hregs, -, hrest⟩ := h
  exact ⟨hregs, rfl, hrest⟩

theorem Leaves.setT (b : Bool) : Leaves s (t.setT b) regs (srWithT sr b) sys := by
  rw [State.setT, Sr.setT_eq, h.sr_eq]
  exact h.setSr _

theorem Leaves.setQ (b : Bool) : Leaves s (t.setQ b) regs (Sr.setQ sr b) sys := by
  rw [State.setQ, h.sr_eq]
  exact h.setSr _

theorem Leaves.setM (b : Bool) : Leaves s (t.setM b) regs (Sr.setM sr b) sys := by
  rw [State.setM, h.sr_eq]
  exact h.setSr _

theorem Leaves.setMac (v : BitVec 64) :
    Leaves s (t.setMac v) regs sr { sys with mach := v.extractLsb' 32 32, macl := v.extractLsb' 0 32 } := by
  obtain ⟨hregs, hsr, hsystem, hrest⟩ := h
  exact ⟨hregs, hsr, by rw [State.setMac_system, hsystem], hrest⟩

theorem Leaves.setMacl (v : Word) : Leaves s (t.setMacl v) regs sr { sys with macl := v } := by
  obtain ⟨hregs, hsr, hsystem, hrest⟩ := h
  exact ⟨hregs, hsr, by rw [State.setMacl_system, hsystem], hrest⟩

end

/-! ### Instructions that end in one of the shared shapes -/

section
variable {i : Instr} {s : State}

/-- A result in a register, whatever the form in which the instruction computes it. -/
theorem Completes.of_putReg_eq {n : RegNum} {v w : Word} (hexec : exec i s = putReg n v s) (hv : v = w) :
    Completes i s (s.regsWith n w) s.sr s.system :=
  hv ▸ .of_putReg hexec

theorem Completes.of_putT {b c : Bool} (hexec : exec i s = putT b s) (hb : b = c) :
    Completes i s s.gpr.read (srWithT s.sr c) s.system :=
  .of_advance (hb ▸ hexec) ((Leaves.refl s).setT c) rfl rfl

theorem Completes.of_putRegT {n : RegNum} {v w : Word} {b c : Bool} (hexec : exec i s = putRegT n v b s) (hv : v = w)
    (hb : b = c) : Completes i s (s.regsWith n w) (srWithT s.sr c) s.system :=
  .of_advance (hv ▸ hb ▸ hexec) (((Leaves.refl s).setReg n w).setT c) rfl rfl

theorem Completes.of_setMac {v w : BitVec 64} (hexec : exec i s = .next (s.setMac v).advance) (hv : v = w) :
    Completes i s s.gpr.read s.sr { s.system with mach := w.extractLsb' 32 32, macl := w.extractLsb' 0 32 } :=
  .of_advance (hv ▸ hexec) ((Leaves.refl s).setMac w) rfl rfl

theorem Completes.of_setMacl {v w : Word} (hexec : exec i s = .next (s.setMacl v).advance) (hv : v = w) :
    Completes i s s.gpr.read s.sr { s.system with macl := w } :=
  .of_advance (hv ▸ hexec) ((Leaves.refl s).setMacl w) rfl rfl

end

end Sys2Proof.Machine
end

section
/-! Addition, subtraction, negation and extension (41_arithmetic.md R211 to R214, R230 to R234, R241 to R245): the word
that the machine computes is the exact integer modulo 2^32, and each flag compares that integer with a bound. -/

namespace Sys2Proof.Machine

/-! ### Words as exact integers -/

theorem ofInt_sub {w : Nat} (x y : Int) : BitVec.ofInt w (x - y) = BitVec.ofInt w x - BitVec.ofInt w y := by
  rw [Int.sub_eq_add_neg, BitVec.ofInt_add, BitVec.ofInt_neg, BitVec.sub_eq_add_neg]

theorem ofInt_toNat (a : Word) : BitVec.ofInt 32 a.toNat = a := by
  rw [BitVec.ofInt_natCast, BitVec.ofNat_toNat, BitVec.setWidth_eq]

theorem ofInt_flag (t : Bool) : BitVec.ofInt 32 (if t then 1 else 0) = ofFlag t := by
  cases t <;> rfl

theorem toNat_flag (t : Bool) : (t.toNat : Int) = if t then 1 else 0 := by
  cases t <;> rfl

theorem add_eq_ofInt (a b : Word) : a + b = BitVec.ofInt 32 (a.toInt + b.toInt) := by
  rw [BitVec.ofInt_add, BitVec.ofInt_toInt, BitVec.ofInt_toInt]

theorem sub_eq_ofInt (a b : Word) : a - b = BitVec.ofInt 32 (a.toInt - b.toInt) := by
  rw [ofInt_sub, BitVec.ofInt_toInt, BitVec.ofInt_toInt]

theorem toInt_sext8 (imm : BitVec 8) : (sext8 imm).toInt = imm.toInt :=
  BitVec.toInt_signExtend_of_le (by decide)

theorem add_sext8_eq_ofInt (a : Word) (imm : BitVec 8) : a + sext8 imm = BitVec.ofInt 32 (a.toInt + imm.toInt) := by
  rw [add_eq_ofInt, toInt_sext8]

theorem zero_sub_eq_ofInt (b : Word) : 0#32 - b = BitVec.ofInt 32 (-b.toInt) := by
  rw [sub_eq_ofInt, BitVec.toInt_zero, Int.zero_sub]

/-- A mask of the low n bits leaves the remainder modulo 2^n. -/
theorem and_lowMask_eq_ofNat (n : Nat) (v : Word) :
    v &&& (BitVec.allOnes n).setWidth 32 = BitVec.ofNat 32 (v.toNat % 2 ^ n) := by
  rw [← setWidth_setWidth_eq_and, ← BitVec.ofNat_toNat, BitVec.toNat_setWidth]

/-! ### Sums and differences with T (R213, R242, R244) -/

theorem add_flag_eq_ofInt (a b : Word) (t : Bool) :
    a + b + ofFlag t = BitVec.ofInt 32 (a.toNat + b.toNat + if t then 1 else 0) := by
  rw [BitVec.ofInt_add, BitVec.ofInt_add, ofInt_toNat, ofInt_toNat, ofInt_flag]

theorem sub_flag_eq_ofInt (a b : Word) (t : Bool) :
    a - b - ofFlag t = BitVec.ofInt 32 (a.toNat - b.toNat - if t then 1 else 0) := by
  rw [ofInt_sub, ofInt_sub, ofInt_toNat, ofInt_toNat, ofInt_flag]

theorem addCarries_eq (a b : Word) (t : Bool) :
    addCarries a b t = decide (2 ^ 32 ≤ (a.toNat + b.toNat + if t then 1 else 0 : Int)) := by
  rw [← toNat_flag]
  exact decide_eq_decide.mpr (by omega)

theorem subBorrows_eq (a b : Word) (t : Bool) :
    subBorrows a b t = decide ((a.toNat - b.toNat - if t then 1 else 0 : Int) < 0) := by
  rw [← toNat_flag]
  exact decide_eq_decide.mpr (by omega)

/-! ### Signed overflow and the count (R214, R230, R245) -/

theorem outOfRange_eq (x : Int) : outOfRange x = decide (x > 2 ^ 31 - 1 ∨ x < -2 ^ 31) :=
  (Bool.decide_or _ _).symm

theorem isZero_sub_one (a : Word) : isZero (a - 1#32) = decide (a = 1#32) :=
  decide_eq_decide.mpr sub_eq_zero

end Sys2Proof.Machine

namespace Sys2Proof

open Sys2Proof.Machine

/-- Settles O27: each of the eight puts one value into Rn, and that value is its rule's. -/
theorem addSubtractExtend : Obligations.AddSubtractExtend := by
  intro s m n imm a b
  exact ⟨.of_putReg_eq rfl (BitVec.add_def a b), .of_putReg_eq rfl (add_sext8_eq_ofInt a imm),
    .of_putReg_eq rfl (sub_eq_ofInt a b), .of_putReg_eq rfl (zero_sub_eq_ofInt b),
    .of_putReg_eq rfl (Size.extend_byte b), .of_putReg_eq rfl (Size.extend_word b),
    .of_putReg_eq rfl (and_lowMask_eq_ofNat 8 b), .of_putReg_eq rfl (and_lowMask_eq_ofNat 16 b)⟩

/-- Settles O28: NEGC is SUBC from 0. -/
theorem carryAndBorrow : Obligations.CarryAndBorrow := by
  intro s m n
  exact ⟨.of_putRegT rfl (add_flag_eq_ofInt _ _ _) (addCarries_eq _ _ _),
    .of_putRegT rfl (sub_flag_eq_ofInt _ _ _) (subBorrows_eq _ _ _),
    .of_putRegT rfl (sub_flag_eq_ofInt 0#32 _ _) (subBorrows_eq 0#32 _ _)⟩

/-- Settles O29: the overflow is that of the exact integer, and a decrement reaches 0 from 1 alone. -/
theorem overflowAndCount : Obligations.OverflowAndCount := by
  intro s m n a b
  exact ⟨.of_putRegT rfl (add_eq_ofInt _ _) (outOfRange_eq (a + b)),
    .of_putRegT rfl (sub_eq_ofInt _ _) (outOfRange_eq (a - b)),
    .of_putRegT rfl (sub_eq_ofInt _ 1#32) (isZero_sub_one _)⟩

end Sys2Proof
end

section
/-! The comparisons (41_arithmetic.md R215 to R223): each condition on words as one on the integers or bytes that they
hold. -/

namespace Sys2Proof.Machine

theorem eq_sext8_iff (a : Word) (imm : BitVec 8) : a = sext8 imm ↔ a.toInt = imm.toInt := by
  rw [← BitVec.toInt_inj, toInt_sext8]

theorem msb_eq_decide_neg (a : Word) : msb a = decide (a.toInt < 0) := by
  rw [msb, ← BitVec.msb_eq_toInt, BitVec.msb_eq_getLsbD_last]

/-- CMP/PZ looks at the sign bit. -/
theorem signedGe_zero (a : Word) : signedGe a 0#32 = !a.getLsbD 31 := by
  rw [← msb, msb_eq_decide_neg, ← decide_not, signedGe, BitVec.toInt_zero]
  exact decide_eq_decide.mpr Int.not_lt.symm

/-- A byte of the exclusive or is 0 where the two words agree. -/
theorem byteAt_xor_beq_zero (a b : Word) (i : Nat) :
    (byteAt (a ^^^ b) i == 0#8) = decide (byteAt a i = byteAt b i) := by
  rw [byteAt, BitVec.extractLsb'_xor, beq_eq_decide]
  exact decide_eq_decide.mpr BitVec.xor_eq_zero_iff

/-- CMP/STR looks for an equal byte from the top down. -/
theorem someByteEqual_eq (a b : Word) :
    someByteEqual a b = decide (∃ k : Fin 4, byteAt a k.val = byteAt b k.val) := by
  have hbytes : someByteEqual a b = (byteAt (a ^^^ b) 3 == 0#8 || byteAt (a ^^^ b) 2 == 0#8 ||
    byteAt (a ^^^ b) 1 == 0#8 || byteAt (a ^^^ b) 0 == 0#8) := rfl
  simp only [hbytes, byteAt_xor_beq_zero, ← Bool.decide_or]
  refine decide_eq_decide.mpr ⟨?_, ?_⟩
  · rintro (((h3 | h2) | h1) | h0)
    exacts [⟨3, h3⟩, ⟨2, h2⟩, ⟨1, h1⟩, ⟨0, h0⟩]
  · rintro ⟨k, hk⟩
    fin_cases k
    exacts [.inr hk, .inl (.inr hk), .inl (.inl (.inr hk)), .inl (.inl (.inl hk))]

end Sys2Proof.Machine

namespace Sys2Proof

open Sys2Proof.Machine

/-- Settles O30: each comparison puts its condition into T. -/
theorem comparisons : Obligations.Comparisons := by
  intro s m n imm sets
  exact ⟨.of_putT rfl (decide_eq_decide.mpr (eq_sext8_iff _ imm)), .of_putT rfl rfl, .of_putT rfl rfl,
    .of_putT rfl rfl, .of_putT rfl rfl, .of_putT rfl rfl, .of_putT rfl (signedGe_zero _), .of_putT rfl rfl,
    .of_putT rfl (someByteEqual_eq _ _)⟩

end Sys2Proof
end

section
/-! The division steps (41_arithmetic.md R224 to R226). -/

namespace Sys2Proof.Machine

/-! ### SR with Q, M and T written -/

theorem ofFlag_getElem (b : Bool) (i : Nat) (hi : i < 32) : (ofFlag b)[i] = (decide (i = 0) && b) := by
  cases b <;> simp [ofFlag]

theorem srWithT_setQ (sr : Word) (q t : Bool) : srWithT (Sr.setQ sr q) t = srWithQT sr q t := by
  rw [← Sr.setT_eq]
  refine BitVec.eq_of_getLsbD_eq fun i hi => ?_
  rw [Sr.setT, Sr.setQ, setBit_getLsbD _ 0 i t hi, setBit_getLsbD sr 8 i q hi]
  interval_cases i <;> simp [srWithQT, ofFlag_getElem]

theorem srWithT_setM_setQ (sr : Word) (m q t : Bool) :
    srWithT (Sr.setM (Sr.setQ sr q) m) t = srWithMQT sr m q t := by
  rw [← Sr.setT_eq]
  refine BitVec.eq_of_getLsbD_eq fun i hi => ?_
  rw [Sr.setT, Sr.setM, Sr.setQ, setBit_getLsbD _ 0 i t hi, setBit_getLsbD _ 9 i m hi, setBit_getLsbD sr 8 i q hi]
  interval_cases i <;> simp [srWithMQT, ofFlag_getElem]

theorem srWithMQT_clear (sr : Word) : srWithMQT sr false false false = sr &&& 0xFFFFFCFE#32 := by
  simp [srWithMQT, ofFlag]

/-! ### The values of the steps -/

/-- The two signs differ when one is negative exactly if the other is not. -/
theorem msb_xor_eq (a b : Word) : (msb a ^^ msb b) = decide (a.toInt < 0 ↔ ¬ b.toInt < 0) := by
  rw [msb_eq_decide_neg, msb_eq_decide_neg]
  by_cases ha : a.toInt < 0 <;> by_cases hb : b.toInt < 0 <;> simp [ha, hb]

theorem div1Shifted_eq (s : State) (n : RegNum) :
    div1Shifted (s.reg n) s.t = ((s.reg n) <<< 1) ||| (s.sr &&& 1#32) := by
  rw [div1Shifted, ofFlag_t]

/-- DIV1 with its dividend and its divisor named (R224). -/
theorem exec_div1 (s : State) (m n : RegNum) {a b : Word} (ha : div1Shifted (s.reg n) s.t = a)
    (hb : (if m = n then a else s.reg m) = b) :
    exec (.div1 m n) s =
      let q := div1Q (msb (s.reg n)) (div1Carry a b s.q s.m) s.m
      .next (((s.setReg n (div1Result a b s.q s.m)).setQ q).setT (q == s.m)).advance := by
  rw [← hb, ← ha]
  rfl

/-- The compact form of R224 is the reference code's switch: each case adds or subtracts as the old Q and M say, and the
bit shifted out selects the carry or its complement. -/
theorem div1Reference_eq (a b : Word) (top q m : Bool) :
    div1Reference a b top q m =
      (div1Result a b q m, div1Q top (div1Carry a b q m) m, div1Q top (div1Carry a b q m) m == m) := by
  have hselects (c : Bool) : (if top then !c else c) = (top ^^ c) := by cases top <;> simp
  have hkeeps (c : Bool) : (if top then c else !c) = ((top ^^ c) ^^ true) := by cases top <;> simp
  cases q <;> cases m <;>
    simp [div1Reference, div1Result, div1Carry, div1Q, BitVec.lt_def, hselects, hkeeps]

end Sys2Proof.Machine

namespace Sys2Proof

open Sys2Proof.Machine

/-- Settles O31: the signs go to Q and M, and T says whether they differ. -/
theorem divisionInitialisation : Obligations.DivisionInitialisation := by
  intro s m n
  constructor
  · rw [← srWithT_setM_setQ, ← msb_eq_decide_neg, ← msb_eq_decide_neg, ← msb_xor_eq]
    exact .of_advance rfl ((((Leaves.refl s).setQ _).setM _).setT _) rfl rfl
  · rw [← srWithMQT_clear, ← srWithT_setM_setQ]
    exact .of_advance rfl ((((Leaves.refl s).setQ false).setM false).setT false) rfl rfl

/-- Settles O32: the compact form gives what the reference switch gives. -/
theorem divisionStepIsTheReferenceSwitch : Obligations.DivisionStepIsTheReferenceSwitch := by
  intro s m n a b r
  rw [show r = _ from div1Reference_eq a b _ _ _, ← srWithT_setQ]
  exact .of_advance (exec_div1 s m n (div1Shifted_eq s n) rfl) ((((Leaves.refl s).setReg n _).setQ _).setT _) rfl rfl

end Sys2Proof
end

section
/-! The multiplications (41_arithmetic.md R228, R229, R238 to R240): the low 32 bits of a product do not depend on
whether its factors are taken as signed. -/

namespace Sys2Proof.Machine

theorem mul_eq_ofInt (a b : Word) : a * b = BitVec.ofInt 32 (a.toInt * b.toInt) := by
  rw [BitVec.ofInt_mul, BitVec.ofInt_toInt, BitVec.ofInt_toInt]

theorem mulWords_eq (a b : Word) : mulWords a b = (a.setWidth 16).toInt * (b.setWidth 16).toInt := by
  rw [mulWords, BitVec.setWidth_eq_extractLsb' (by decide), BitVec.setWidth_eq_extractLsb' (by decide)]

theorem mul_lowWords_eq_ofNat (a b : Word) :
    (a &&& 0xFFFF#32) * (b &&& 0xFFFF#32) = BitVec.ofNat 32 ((a.toNat % 2 ^ 16) * (b.toNat % 2 ^ 16)) := by
  rw [BitVec.ofNat_mul, ← and_lowMask_eq_ofNat, ← and_lowMask_eq_ofNat]
  rfl

end Sys2Proof.Machine

namespace Sys2Proof

open Sys2Proof.Machine

/-- Settles O33: each of the five puts its product, or the product's low half, into the accumulator. -/
theorem multiplications : Obligations.Multiplications := by
  intro s m n both low
  exact ⟨.of_setMac rfl rfl, .of_setMac rfl rfl, .of_setMacl rfl (mul_eq_ofInt _ _),
    .of_setMacl rfl (congrArg _ (mulWords_eq _ _)), .of_setMacl rfl (mul_lowWords_eq_ofNat _ _)⟩

end Sys2Proof
end

section
/-! The multiply-accumulates (41_arithmetic.md R235 to R237; D14, D28; log entries 11, 17, 23, 24): what the two reads
and the two increments leave, and the accumulator as an exact integer. -/

namespace Sys2Proof.Machine

/-! ### The shared shape (R235) -/

theorem multiplyAccumulate_ok {z : Size} {f : BitVec 64 → Bool → Word → Word → BitVec 64} {m n : RegNum} {s : State}
    (hn : s.accessOk .read (s.reg n) z = true) (hm : s.accessOk .read (s.macSecond z m n) z = true) :
    multiplyAccumulate z f m n s =
      .next (((s.afterRead (s.reg n) z).afterRead (s.macSecond z m n) z).accumulate z m n
        (f s.mac s.satS (s.memRead (s.reg n) z) ((s.afterRead (s.reg n) z).memRead (s.macSecond z m n) z))) := by
  rw [multiplyAccumulate, checked_ok s _ _ _ _ hn, checked_ok s _ _ _ _ hm]

theorem multiplyAccumulate_refused {z : Size} {f : BitVec 64 → Bool → Word → Word → BitVec 64} {m n : RegNum}
    {s : State} (h : ¬(s.accessOk .read (s.reg n) z = true ∧ s.accessOk .read (s.macSecond z m n) z = true)) :
    multiplyAccumulate z f m n s = .next (s.raise (.addressError .read)) := by
  rw [multiplyAccumulate]
  by_cases hn : s.accessOk .read (s.reg n) z = true
  · have hm : s.accessOk .read (s.macSecond z m n) z = false := Bool.eq_false_iff.mpr fun hm => h ⟨hn, hm⟩
    rw [checked_ok s _ _ _ _ hn, checked_refused s _ _ _ _ hm]
  · rw [checked_refused s _ _ _ _ (Bool.eq_false_iff.mpr hn)]

theorem State.macSecond_afterRead (s : State) (a : Word) (y z : Size) (m n : RegNum) :
    (s.afterRead a y).macSecond z m n = s.macSecond z m n := by
  simp [State.macSecond, State.postInc]

/-- Both registers advance, Rm's last, and the accumulator is new; the reads are counted as done. -/
theorem Leaves.accumulate (s : State) (z : Size) (m n : RegNum) (acc : BitVec 64) :
    let s' := (s.afterRead (s.reg n) z).afterRead (s.macSecond z m n) z
    Leaves s' (s'.accumulate z m n acc)
      (Function.update (s.regsWith n (s.postInc n z)) (physReg s.sr m) (s.macSecond z m n + z.step)) s.sr
      { s.system with mach := acc.extractLsb' 32 32, macl := acc.extractLsb' 0 32 } := by
  intro s'
  have hreads : Leaves s' s' s.gpr.read s.sr s.system := by simpa [s'] using Leaves.refl s'
  have hfirst : s'.postInc n z = s.postInc n z := by simp [s', State.postInc]
  have hsecond : s'.macSecond z m n = s.macSecond z m n := by simp [s', State.macSecond_afterRead]
  rw [State.accumulate, hfirst, hsecond]
  exact (((hreads.setReg n _).setReg m _).setMac acc).advance

theorem multiplyAccumulate_completes_or_raises {i : Instr} {z : Size}
    {f : BitVec 64 → Bool → Word → Word → BitVec 64} {m n : RegNum} {s : State} {acc : BitVec 64}
    (hexec : exec i s = multiplyAccumulate z f m n s)
    (hacc : f s.mac s.satS (s.memRead (s.reg n) z) ((s.afterRead (s.reg n) z).memRead (s.macSecond z m n) z) = acc) :
    if s.accessOk .read (s.reg n) z = true ∧ s.accessOk .read (s.macSecond z m n) z = true then
      ∃ t, exec i s = .next t ∧ Advanced s t ∧
        Leaves ((s.afterRead (s.reg n) z).afterRead (s.macSecond z m n) z) t
          (Function.update (s.regsWith n (s.postInc n z)) (physReg s.sr m) (s.macSecond z m n + z.step)) s.sr
          { s.system with mach := acc.extractLsb' 32 32, macl := acc.extractLsb' 0 32 }
    else Raises i s (.addressError .read) := by
  split
  · next hok =>
    obtain ⟨hn, hm⟩ := hok
    exact ⟨_, hacc ▸ hexec.trans (multiplyAccumulate_ok hn hm), .of_advance (by simp) (by simp),
      Leaves.accumulate s z m n acc⟩
  · next hrefused => exact hexec.trans (multiplyAccumulate_refused hrefused)

/-! ### The accumulators (R236, R237) -/

theorem clamp_eq {lo hi : Int} (h : lo ≤ hi) (x : Int) :
    clamp lo hi x = if x > hi then hi else if x < lo then lo else x := by
  unfold clamp
  split
  · omega
  · split <;> omega

/-- Without saturation the accumulator is the exact sum modulo 2^64 (D14). -/
theorem add_ofInt_eq (mac : BitVec 64) (p : Int) : mac + BitVec.ofInt 64 p = BitVec.ofInt 64 (mac.toInt + p) := by
  rw [BitVec.ofInt_add, BitVec.ofInt_toInt]

/-- MAC.L: 64 bits that wrap, or with S = 1 the exact 48-bit sum limited to 48 bits (D28). -/
theorem macLong_eq (mac : BitVec 64) (sat : Bool) (vn vm : Word) :
    macLong mac sat vn vm =
      let p := vn.toInt * vm.toInt
      let sum := (mac.setWidth 48).toInt + p
      if sat = false then BitVec.ofInt 64 (mac.toInt + p)
      else BitVec.ofInt 64 (if sum > 2 ^ 47 - 1 then 2 ^ 47 - 1 else if sum < -2 ^ 47 then -2 ^ 47 else sum) := by
  have hlow : mac.extractLsb' 0 48 = mac.setWidth 48 := (BitVec.setWidth_eq_extractLsb' (by decide)).symm
  have hrange : (-2 ^ 47 : Int) ≤ 2 ^ 47 - 1 := by decide
  rw [macLong, hlow]
  cases sat with
  | false => exact add_ofInt_eq mac _
  | true => exact congrArg (BitVec.ofInt 64) (clamp_eq hrange _)

/-- MAC.W: 64 bits that wrap, or with S = 1 the exact sum with MACL limited to 32 bits, an overflow marked in MACH. -/
theorem macWord_eq (mach macl : Word) (sat : Bool) (vn vm : Word) :
    macWord (mach ++ macl) sat vn vm =
      let p := (vn.setWidth 16).toInt * (vm.setWidth 16).toInt
      let sum := macl.toInt + p
      if sat = false then BitVec.ofInt 64 ((mach ++ macl : BitVec 64).toInt + p)
      else if sum > 2 ^ 31 - 1 then (mach ||| 1#32) ++ 0x7FFFFFFF#32
      else if sum < -2 ^ 31 then (mach ||| 1#32) ++ 0x80000000#32
      else mach ++ BitVec.ofInt 32 sum := by
  have hhigh : (mach ++ macl).extractLsb' 32 32 = mach := BitVec.extractLsb'_append_eq_left
  have hlow : (mach ++ macl).extractLsb' 0 32 = macl := BitVec.extractLsb'_append_eq_right
  rw [macWord, hhigh, hlow, mulWords_eq]
  cases sat with
  | false => exact add_ofInt_eq _ _
  | true => rfl

end Sys2Proof.Machine

namespace Sys2Proof

open Sys2Proof.Machine

/-- Settles O34: both have the shared shape of R235, each with its own accumulator. -/
theorem multiplyAccumulate : Obligations.MultiplyAccumulate := by
  intro s m n z i h
  obtain ⟨rfl, rfl⟩ | ⟨rfl, rfl⟩ := h
  · exact multiplyAccumulate_completes_or_raises rfl (macLong_eq s.mac s.satS _ _)
  · exact multiplyAccumulate_completes_or_raises rfl (macWord_eq s.mach s.macl s.satS _ _)

end Sys2Proof
end

section
/-! The logic instructions (42_logic.md R260 to R274; D25; log entries 15 and 17): bytes inside words, and what a
read-modify-write of one byte leaves. -/

namespace Sys2Proof.Machine

/-! ### Bytes inside words (R113) -/

theorem getLsbD_zext8 (b : Byte) {k : Nat} (hk : k < 32) : (zext8 b).getLsbD k = b.getLsbD k := by
  simp [zext8, hk]

/-- A zero-extended immediate masks all but the low byte. -/
theorem and_zext8 (v : Word) (imm : Byte) : v &&& zext8 imm = zext8 (v.setWidth 8 &&& imm) := by
  refine BitVec.eq_of_getLsbD_eq fun k hk => ?_
  rw [BitVec.getLsbD_and, getLsbD_zext8 _ hk, getLsbD_zext8 _ hk, BitVec.getLsbD_and, BitVec.getLsbD_setWidth]
  by_cases hlow : k < 8
  · simp [hlow]
  · simp [BitVec.getLsbD_of_ge imm k (Nat.le_of_not_lt hlow)]

theorem setWidth_zext8 (b : Byte) : (zext8 b).setWidth 8 = b :=
  (BitVec.setWidth_setWidth_of_le b (by decide)).trans (BitVec.setWidth_eq b)

theorem isZero_zext8 (b : Byte) : isZero (zext8 b) = decide (b = 0#8) :=
  decide_eq_decide.mpr ⟨fun h => by rw [← setWidth_zext8 b, h]; rfl, fun h => h ▸ rfl⟩

/-- The condition of TST with an immediate looks at the low byte alone (R270, R271). -/
theorem isZero_and_zext8 (v : Word) (imm : Byte) : isZero (v &&& zext8 imm) = decide (v.setWidth 8 &&& imm = 0#8) := by
  rw [and_zext8, isZero_zext8]

/-- What a read of a byte gives is a zero-extended byte, from memory and from a device (R75). -/
theorem State.memRead_byte (s : State) (a : Word) : s.memRead a .byte = zext8 ((s.memRead a .byte).setWidth 8) := by
  obtain ⟨b, hb⟩ : ∃ b, s.memRead a .byte = zext8 b := by
    cases hdevice : s.isDevice a with
    | true => exact ⟨_, (s.memRead_device a .byte hdevice).trans (and_zext8 _ 0xFF#8)⟩
    | false => exact ⟨_, s.memRead_memory a .byte hdevice⟩
  rw [hb, setWidth_zext8]

/-! ### A refused access, or the rest -/

section
variable {i : Instr} {s : State}

/-- `completes_or_raises_of_checked` with the refusal first, as the rules of a read-modify-write order it (R260). -/
theorem raises_or_completes_of_checked {k : AccessKind} {a : Word} {z : Size} {rest : Result} {completes : Prop}
    (hexec : exec i s = checked s k a z rest) (hadmitted : exec i s = rest → completes) :
    if s.accessOk k a z = false then Raises i s (.addressError k) else completes := by
  split
  · next hrefused => exact hexec.trans (checked_refused s k a z rest hrefused)
  · next hok => exact hadmitted (hexec.trans (checked_ok s k a z rest (Bool.eq_true_of_not_eq_false hok)))

/-- Both accesses are checked, the read first, before either is made (R260). -/
theorem raises_or_completes_of_modifyByte {a : Word} {f : Word → Word} {after : Word → State → State}
    {completes : Prop} (hexec : exec i s = modifyByte a f after s)
    (hadmitted : exec i s = .next (after (s.memRead a .byte)
      ((s.afterRead a .byte).memWrite a .byte (f (s.memRead a .byte)))).advance → completes) :
    if s.accessOk .read a .byte = false then Raises i s (.addressError .read)
    else if s.accessOk .write a .byte = false then Raises i s (.addressError .write)
    else completes :=
  raises_or_completes_of_checked hexec fun hread => raises_or_completes_of_checked hread hadmitted

/-! ### The byte updated -/

theorem StoreEffect.setT {t : State} {a : Word} {z : Size} {v : Word} (h : StoreEffect s t a z v) (c : Bool) :
    StoreEffect s (t.setT c) a z v := h

/-- A byte read and stored, and nothing else but the advance. -/
theorem CompletesUpdate.of_memWrite {a v : Word} {b : Byte}
    (hexec : exec i s = .next ((s.afterRead a .byte).memWrite a .byte v).advance) (hv : v = zext8 b) :
    CompletesUpdate i s s.sr a b := by
  subst hv
  exact ⟨_, hexec, fun _ => by simp, by simp, by simp, ((s.afterRead a .byte).memWrite_effect a .byte _).advance,
    .of_advance (by simp) (by simp)⟩

/-- A byte read and stored, then a new T. -/
theorem CompletesUpdate.of_memWrite_setT {a v : Word} {b : Byte} {c d : Bool}
    (hexec : exec i s = .next (((s.afterRead a .byte).memWrite a .byte v).setT c).advance) (hv : v = zext8 b)
    (hc : c = d) : CompletesUpdate i s (srWithT s.sr d) a b := by
  subst hv hc
  exact ⟨_, hexec, fun _ => by simp, by simp [Sr.setT_eq], by simp,
    (((s.afterRead a .byte).memWrite_effect a .byte _).setT c).advance, .of_advance (by simp) (by simp)⟩

/-- A read, then a new T. -/
theorem CompletesRead.of_putT {a : Word} {z : Size} {c d : Bool} (hexec : exec i s = putT c (s.afterRead a z))
    (hc : c = d) : CompletesRead i s a z s.gpr.read (srWithT s.sr d) s.system :=
  .of_advance (hc ▸ hexec) ((Leaves.afterRead s a z).setT d) (by simp) (by simp)

end

/-! ### AND.B, OR.B and XOR.B (R263, R267, R274) -/

/-- Each is a read-modify-write at GBR + R0 whose operation on words does to a zero-extended byte what its rule does to
the byte. -/
theorem exec_of_byteLogicForm {i : Instr} {f : Byte → Byte} (h : byteLogicForm i = some f) :
    ∃ g : Word → Word, (∀ b, g (zext8 b) = zext8 (f b)) ∧
      ∀ s, exec i s = modifyByte s.indexedGbr g (fun _ s' => s') s := by
  unfold byteLogicForm at h
  split at h <;> cases h
  case h_1 imm => exact ⟨(· &&& zext8 imm), fun _ => BitVec.setWidth_and.symm, fun _ => rfl⟩
  case h_2 imm => exact ⟨(· ||| zext8 imm), fun _ => BitVec.setWidth_or.symm, fun _ => rfl⟩
  case h_3 imm => exact ⟨(· ^^^ zext8 imm), fun _ => BitVec.setWidth_xor.symm, fun _ => rfl⟩

/-! ### TAS.B (R268, D25) -/

theorem exec_tasB (n : RegNum) (s : State) :
    exec (.tasB n) s = modifyByte (s.reg n) (· ||| 0x80#32) (fun v s' => s'.setT (isZero v)) s :=
  rfl

end Sys2Proof.Machine

namespace Sys2Proof

open Sys2Proof.Machine

/-- Settles O35: each bit of a bitwise operation is that operation on the bits, and TST looks at the whole word. -/
theorem logicOfRegisters : Obligations.LogicOfRegisters := by
  intro s m n imm puts tests
  have himm : ∀ k < 32, (zext8 imm).getLsbD k = imm.getLsbD k := fun _ => getLsbD_zext8 imm
  refine ⟨⟨_, ?and, .of_putReg rfl⟩, ⟨_, ?or, .of_putReg rfl⟩, ⟨_, ?xor, .of_putReg rfl⟩, ⟨_, ?not, .of_putReg rfl⟩,
    ⟨_, ?andImm, .of_putReg rfl⟩, ⟨_, ?orImm, .of_putReg rfl⟩, ⟨_, ?xorImm, .of_putReg rfl⟩, .of_putT rfl rfl,
    .of_putT rfl (isZero_and_zext8 _ imm)⟩
  case and => exact fun _ _ => BitVec.getLsbD_and
  case or => exact fun _ _ => BitVec.getLsbD_or
  case xor => exact fun _ _ => BitVec.getLsbD_xor
  case not => exact fun k hk => by simp [hk]
  case andImm => exact fun k hk => by rw [BitVec.getLsbD_and, himm k hk]
  case orImm => exact fun k hk => by rw [BitVec.getLsbD_or, himm k hk]
  case xorImm => exact fun k hk => by rw [BitVec.getLsbD_xor, himm k hk]

/-- Settles O36: the three updates share the read-modify-write of a byte, and TST.B is a read. -/
theorem logicOfMemory : Obligations.LogicOfMemory := by
  refine ⟨fun s => rfl, fun s i f hform => ?update, fun s imm => ?test⟩
  case update =>
    obtain ⟨g, hg, hexec⟩ := exec_of_byteLogicForm hform
    have hbyte : g (s.memRead s.indexedGbr .byte) = zext8 (f ((s.memRead s.indexedGbr .byte).setWidth 8)) :=
      (congrArg g (s.memRead_byte s.indexedGbr)).trans (hg _)
    exact raises_or_completes_of_modifyByte (hexec s) fun hdone => .of_memWrite hdone hbyte
  case test =>
    exact raises_or_completes_of_checked rfl fun hread => .of_putT hread (isZero_and_zext8 _ imm)

/-- Settles O37: T looks at the byte as it was read, and bit 7 of that byte is set in the store. -/
theorem testAndSet : Obligations.TestAndSet := by
  intro s n
  have hread := s.memRead_byte (s.reg n)
  have hset : s.memRead (s.reg n) .byte ||| 0x80#32 = zext8 ((s.memRead (s.reg n) .byte).setWidth 8 ||| 0x80#8) :=
    (congrArg (· ||| zext8 0x80#8) hread).trans BitVec.setWidth_or.symm
  have hzero : isZero (s.memRead (s.reg n) .byte) = decide ((s.memRead (s.reg n) .byte).setWidth 8 = 0#8) :=
    (congrArg isZero hread).trans (isZero_zext8 _)
  exact raises_or_completes_of_modifyByte (exec_tasB n s) fun hdone => .of_memWrite_setT hdone hset hzero

end Sys2Proof
end

section
/-! The shifts (43_shift.md R281 to R296; C4, C5; log entry 25): the bit that a one-bit shift lets in, and a shift by
several places as a multiplication or a division by a power of two. -/

namespace Sys2Proof.Machine

/-! ### Shifts by one place (R281 to R284, R286, R287, R289, R290) -/

/-- One place to the left, `b` entering at bit 0. -/
theorem getLsbD_shiftLeft_one_or (v : Word) (b : Bool) :
    ∀ k < 32, ((v <<< 1) ||| ofFlag b).getLsbD k = if k = 0 then b else v.getLsbD (k - 1) := by
  intro k hk
  rw [BitVec.getLsbD_or, BitVec.getLsbD_shiftLeft, BitVec.getLsbD_eq_getElem hk (x := ofFlag b),
    ofFlag_getElem b k hk]
  by_cases hentry : k = 0
  · simp [hentry]
  · have hpast : ¬k < 1 := by omega
    simp [hentry, hpast, hk]

/-- One place to the right, `b` entering at bit 31. -/
theorem getLsbD_ushiftRight_one_or (v : Word) (b : Bool) :
    ∀ k < 32, ((v >>> 1) ||| (ofFlag b <<< 31)).getLsbD k = if k = 31 then b else v.getLsbD (k + 1) := by
  intro k hk
  rw [BitVec.getLsbD_or, BitVec.getLsbD_ushiftRight, BitVec.getLsbD_shiftLeft, Nat.add_comm 1 k]
  by_cases hentry : k = 31
  · cases b <;> simp [hentry, ofFlag]
  · have hbefore : k < 31 := by omega
    simp [hentry, hbefore]

/-- The arithmetic shift lets the sign in. -/
theorem getLsbD_sshiftRight_one (v : Word) :
    ∀ k < 32, (v.sshiftRight 1).getLsbD k = if k = 31 then v.getLsbD 31 else v.getLsbD (k + 1) := by
  intro k hk
  rw [BitVec.getLsbD_sshiftRight, Nat.add_comm 1 k, BitVec.msb_eq_getLsbD_last]
  by_cases hentry : k = 31
  · simp [hentry]
  · have hbefore : k + 1 < 32 := by omega
    simp [hentry, hbefore, hk]

/-! ### Shifts by several places (R285, R288, R291 to R296) -/

theorem shiftLeft_eq_ofNat (v : Word) (c : Nat) : v <<< c = BitVec.ofNat 32 (v.toNat * 2 ^ c) :=
  congrArg (BitVec.ofNat 32) (Nat.shiftLeft_eq v.toNat c)

theorem ushiftRight_eq_ofNat (v : Word) (c : Nat) : v >>> c = BitVec.ofNat 32 (v.toNat / 2 ^ c) := by
  rw [← Nat.shiftRight_eq_div_pow, ← BitVec.toNat_ushiftRight, BitVec.ofNat_toNat, BitVec.setWidth_eq]

theorem sshiftRight_eq_ofInt (v : Word) (c : Nat) : v.sshiftRight c = BitVec.ofInt 32 (v.toInt / (2 ^ c : Nat)) :=
  congrArg (BitVec.ofInt 32) (Int.shiftRight_eq_div_pow v.toInt c)

theorem shiftCount_eq (rm : Word) : shiftCount rm = rm.toNat % 32 :=
  BitVec.extractLsb'_toNat 0 5 rm

/-- SHAD's rule on integers: the sign of Rm gives the direction, its low five bits the count (C5, log entry 25). -/
theorem shadResult_eq (rn rm : Word) :
    shadResult rn rm =
      if rm.toInt < 0 then BitVec.ofInt 32 (rn.toInt / (2 ^ (32 - rm.toNat % 32) : Nat))
      else BitVec.ofNat 32 (rn.toNat * 2 ^ (rm.toNat % 32)) := by
  simp only [shadResult, msb_eq_decide_neg, decide_eq_true_eq, shiftCount_eq, sshiftRight_eq_ofInt, shiftLeft_eq_ofNat]

/-- SHLD's rule, with the unsigned quotient (C4, log entry 25). -/
theorem shldResult_eq (rn rm : Word) :
    shldResult rn rm =
      if rm.toInt < 0 then BitVec.ofNat 32 (rn.toNat / 2 ^ (32 - rm.toNat % 32))
      else BitVec.ofNat 32 (rn.toNat * 2 ^ (rm.toNat % 32)) := by
  simp only [shldResult, msb_eq_decide_neg, decide_eq_true_eq, shiftCount_eq, ushiftRight_eq_ofNat, shiftLeft_eq_ofNat]

end Sys2Proof.Machine

namespace Sys2Proof

open Sys2Proof.Machine

/-- Settles O38: the eight differ in the direction and in the bit that enters; without a rotate it is 0 or the sign. -/
theorem oneBitShifts : Obligations.OneBitShifts := by
  intro s n v old left right
  have hleftZero : v <<< 1 = (v <<< 1) ||| ofFlag false := BitVec.or_zero.symm
  have hrightZero : v >>> 1 = (v >>> 1) ||| (ofFlag false <<< 31) := BitVec.or_zero.symm
  exact ⟨⟨_, getLsbD_shiftLeft_one_or v _, .of_putRegT rfl rfl rfl⟩,
    ⟨_, getLsbD_ushiftRight_one_or v _, .of_putRegT rfl rfl rfl⟩,
    ⟨_, getLsbD_shiftLeft_one_or v _, .of_putRegT rfl rfl rfl⟩,
    ⟨_, getLsbD_ushiftRight_one_or v _, .of_putRegT rfl rfl rfl⟩,
    ⟨_, getLsbD_shiftLeft_one_or v _, .of_putRegT rfl hleftZero rfl⟩,
    ⟨_, getLsbD_sshiftRight_one v, .of_putRegT rfl rfl rfl⟩,
    ⟨_, getLsbD_shiftLeft_one_or v _, .of_putRegT rfl hleftZero rfl⟩,
    ⟨_, getLsbD_ushiftRight_one_or v _, .of_putRegT rfl hrightZero rfl⟩⟩

/-- Settles O39: a shift by a fixed count multiplies or divides by the power of two with that exponent. -/
theorem fixedShifts : Obligations.FixedShifts := by
  intro s n v puts
  exact ⟨.of_putReg_eq rfl (shiftLeft_eq_ofNat _ 2), .of_putReg_eq rfl (shiftLeft_eq_ofNat _ 8),
    .of_putReg_eq rfl (shiftLeft_eq_ofNat _ 16), .of_putReg_eq rfl (ushiftRight_eq_ofNat _ 2),
    .of_putReg_eq rfl (ushiftRight_eq_ofNat _ 8), .of_putReg_eq rfl (ushiftRight_eq_ofNat _ 16)⟩

/-- Settles O40: both put one value into Rn, computed from the old Rm. -/
theorem dynamicShifts : Obligations.DynamicShifts := by
  intro s m n c left
  exact ⟨.of_putReg_eq rfl (shadResult_eq _ _), .of_putReg_eq rfl (shldResult_eq _ _)⟩

end Sys2Proof
end

section
/-! The branches (44_branch.md R300 to R316) and what may not come between a branch and its slot (R304): each branch
raises in a delay slot, and outside one it advances, goes to its target at once or leaves it pending. -/

namespace Sys2Proof.Machine

/-! ### The target (R305) -/

/-- The target on words is the exact integer modulo 2^32, for every width of the displacement. -/
theorem State.relTarget_eq_ofInt {w : Nat} (s : State) (disp : BitVec w) (hw : w ≤ 32) :
    s.relTarget disp = BitVec.ofInt 32 (s.pc.toInt + 4 + 2 * disp.toInt) := by
  have hdisp : disp.signExtend 32 = BitVec.ofInt 32 disp.toInt := by
    rw [← BitVec.toInt_signExtend_of_le hw, BitVec.ofInt_toInt]
  calc s.relTarget disp = s.pc + 4#32 + 2#32 * BitVec.ofInt 32 disp.toInt := by
        rw [State.relTarget, hdisp, BitVec.mul_comm]
    _ = BitVec.ofInt 32 (s.pc.toInt + 4 + 2 * disp.toInt) := by
        rw [BitVec.ofInt_add, BitVec.ofInt_add, BitVec.ofInt_mul, BitVec.ofInt_toInt]
        rfl

/-! ### In a delay slot (R303) -/

section
variable {i : Instr} {s : State}

theorem raises_of_outsideSlot {rest : Result} (hexec : exec i s = outsideSlot s rest) (hslot : s.pending ≠ none) :
    Raises i s .slotIllegal :=
  hexec.trans (outsideSlot_some s rest hslot)

/-- Each of the thirteen checks for the slot before anything else. -/
theorem exec_of_isSlotIllegal (h : i.isSlotIllegal = true) (s : State) : ∃ rest, exec i s = outsideSlot s rest := by
  unfold Instr.isSlotIllegal at h
  split at h
  case h_14 => cases h
  all_goals exact ⟨_, rfl⟩

theorem raises_of_isSlotIllegal (h : i.isSlotIllegal = true) (hslot : s.pending ≠ none) : Raises i s .slotIllegal := by
  obtain ⟨rest, hexec⟩ := exec_of_isSlotIllegal h s
  exact raises_of_outsideSlot hexec hslot

/-! ### The delayed branches (R301) -/

theorem Leaves.setPr {t : State} {regs : PhysReg → Word} {sr : Word} {sys : SystemRegs} (h : Leaves s t regs sr sys)
    (v : Word) : Leaves s (t.setPr v) regs sr { sys with pr := v } := by
  obtain ⟨hregs, hsr, hsystem, hrest⟩ := h
  exact ⟨hregs, hsr, by rw [State.setPr_system, hsystem], hrest⟩

theorem Leaves.delayedBranch {t : State} {regs : PhysReg → Word} {sr : Word} {sys : SystemRegs}
    (h : Leaves s t regs sr sys) (target : Word) : Leaves s (t.delayedBranch target) regs sr sys := h

theorem Leaves.branch {t : State} {regs : PhysReg → Word} {sr : Word} {sys : SystemRegs}
    (h : Leaves s t regs sr sys) (target : Word) : Leaves s (t.branch target) regs sr sys := h

theorem BranchesDelayed.of_delayedBranch {u : State} {sr : Word} {sys : SystemRegs} {target w : Word}
    (hexec : exec i s = .next (u.delayedBranch target)) (hleaves : Leaves s u s.gpr.read sr sys) (hpc : u.pc = s.pc)
    (htarget : target = w) : BranchesDelayed i s sr sys w :=
  ⟨_, hexec, hleaves.delayedBranch target, congrArg (· + 2#32) hpc, congrArg some htarget⟩

/-- A jump raises in a slot; outside one it changes nothing before its slot instruction runs. -/
theorem raises_or_branchesDelayed_of_jump {target w : Word} (hexec : exec i s = jump target s) (htarget : target = w) :
    (s.pending ≠ none → Raises i s .slotIllegal) ∧ (s.pending = none → BranchesDelayed i s s.sr s.system w) :=
  ⟨raises_of_outsideSlot hexec,
    fun hp => .of_delayedBranch (hexec.trans (outsideSlot_none s _ hp)) (.refl s) rfl htarget⟩

/-- A call raises in a slot; outside one PR is new before its slot instruction runs. -/
theorem raises_or_branchesDelayed_of_call {target w : Word} (hexec : exec i s = call target s) (htarget : target = w) :
    (s.pending ≠ none → Raises i s .slotIllegal) ∧
      (s.pending = none → BranchesDelayed i s s.sr { s.system with pr := s.pc + 4#32 } w) :=
  ⟨raises_of_outsideSlot hexec,
    fun hp => .of_delayedBranch (hexec.trans (outsideSlot_none s _ hp)) ((Leaves.refl s).setPr _) rfl htarget⟩

/-! ### The conditional branches (R306 to R309) -/

variable {c : Bool} {disp : BitVec 8} (hp : s.pending = none)
include hp

theorem branchIf_taken (hc : c = true) : branchIf c disp s = .next (s.branch (s.relTarget disp)) := by
  rw [branchIf, outsideSlot_none s _ hp, if_pos hc]

theorem branchIf_not_taken (hc : c = false) : branchIf c disp s = .next s.advance := by
  rw [branchIf, outsideSlot_none s _ hp, if_neg (by simp [hc])]

theorem delayedBranchIf_taken (hc : c = true) :
    delayedBranchIf c disp s = .next (s.delayedBranch (s.relTarget disp)) := by
  rw [delayedBranchIf, outsideSlot_none s _ hp, if_pos hc]

theorem delayedBranchIf_not_taken (hc : c = false) : delayedBranchIf c disp s = .next s.advance := by
  rw [delayedBranchIf, outsideSlot_none s _ hp, if_neg (by simp [hc])]

/-- A branch without a slot that is taken: the next instruction is the target's, and no branch is pending. -/
theorem branches_of_branchIf (hexec : exec i s = branchIf c disp s) (hc : c = true) :
    ∃ t, exec i s = .next t ∧ Leaves s t s.gpr.read s.sr s.system ∧
      t.pc = BitVec.ofInt 32 (s.pc.toInt + 4 + 2 * disp.toInt) ∧ t.pending = none :=
  ⟨_, hexec.trans (branchIf_taken hp hc), (Leaves.refl s).branch _, s.relTarget_eq_ofInt disp (by decide), hp⟩

theorem Completes.of_branchIf (hexec : exec i s = branchIf c disp s) (hc : c = false) :
    Completes i s s.gpr.read s.sr s.system :=
  .of_advance (hexec.trans (branchIf_not_taken hp hc)) (.refl s) rfl rfl

theorem BranchesDelayed.of_delayedBranchIf (hexec : exec i s = delayedBranchIf c disp s) (hc : c = true) :
    BranchesDelayed i s s.sr s.system (BitVec.ofInt 32 (s.pc.toInt + 4 + 2 * disp.toInt)) :=
  .of_delayedBranch (hexec.trans (delayedBranchIf_taken hp hc)) (.refl s) rfl (s.relTarget_eq_ofInt disp (by decide))

theorem Completes.of_delayedBranchIf (hexec : exec i s = delayedBranchIf c disp s) (hc : c = false) :
    Completes i s s.gpr.read s.sr s.system :=
  .of_advance (hexec.trans (delayedBranchIf_not_taken hp hc)) (.refl s) rfl rfl

end

/-! ### The boundary before the slot (R304, R450) -/

theorem State.accepts_before_slot {s : State} (hslot : s.pending ≠ none) (r : IntReq) : s.accepts r = false := by
  have hpending : s.pending.isNone = false := Option.isNone_eq_false_iff.mpr (Option.isSome_iff_ne_none.mpr hslot)
  rw [State.accepts, hpending, Bool.false_and, Bool.false_and]

end Sys2Proof.Machine

namespace Sys2Proof

open Sys2Proof.Machine

/-- Settles O18: the thirteen share the check for the slot; a /S branch not taken ends in the advance. -/
theorem slotIllegalInstructions : Obligations.SlotIllegalInstructions := by
  refine ⟨fun i s target hi hpending => ?_, fun s disp hp ht => ?bfS, fun s disp hp ht => ?btS⟩
  · have hslot : s.pending ≠ none := by simp [hpending]
    exact raises_of_isSlotIllegal hi hslot
  case bfS => exact .of_delayedBranchIf hp rfl (congrArg not ht)
  case btS => exact .of_delayedBranchIf hp rfl ht

/-- Settles O41: BF and BF/S look at the complement of T, BT and BT/S at T. -/
theorem conditionalBranches : Obligations.ConditionalBranches := by
  intro s disp target at_ falls delayed
  refine ⟨fun hslot => ?slot, fun hp ht => ?clear, fun hp ht => ?set⟩
  case slot =>
    exact ⟨raises_of_isSlotIllegal rfl hslot, raises_of_isSlotIllegal rfl hslot, raises_of_isSlotIllegal rfl hslot,
      raises_of_isSlotIllegal rfl hslot⟩
  case clear =>
    have hnot : (!s.t) = true := congrArg not ht
    exact ⟨branches_of_branchIf hp rfl hnot, .of_branchIf hp rfl ht, .of_delayedBranchIf hp rfl hnot,
      .of_delayedBranchIf hp rfl ht⟩
  case set =>
    have hnot : (!s.t) = false := congrArg not ht
    exact ⟨.of_branchIf hp rfl hnot, branches_of_branchIf hp rfl ht, .of_delayedBranchIf hp rfl hnot,
      .of_delayedBranchIf hp rfl ht⟩

/-- Settles O42: the four are jumps, each with its own target. -/
theorem jumps : Obligations.Jumps := by
  intro s disp n goes
  exact ⟨raises_or_branchesDelayed_of_jump rfl (s.relTarget_eq_ofInt disp (by decide)),
    raises_or_branchesDelayed_of_jump rfl rfl, raises_or_branchesDelayed_of_jump rfl rfl,
    raises_or_branchesDelayed_of_jump rfl rfl⟩

/-- Settles O43: the three are calls, each with its own target. -/
theorem calls : Obligations.Calls := by
  intro s disp n calls
  exact ⟨raises_or_branchesDelayed_of_call rfl (s.relTarget_eq_ofInt disp (by decide)),
    raises_or_branchesDelayed_of_call rfl rfl, raises_or_branchesDelayed_of_call rfl rfl⟩

/-- Settles O13: a pending branch holds every request off, and a reset is taken before any request is looked at. -/
theorem noInterruptBeforeTheSlot : Obligations.NoInterruptBeforeTheSlot := by
  intro s target hpending
  have hslot : s.afterInput.pending ≠ none := by simp [hpending]
  exact ⟨fun hreset => step_eq_runOrWait hreset fun r _ => State.accepts_before_slot hslot r, fun _ => step_of_reset⟩

end Sys2Proof
end

section
/-! The privileged instructions in user mode (45_system_control.md R331; D23; log entry 30), and what LDC, STC and the
flag instructions leave behind (45_system_control.md R332 to R385, R399 to R401). -/

namespace Sys2Proof.Machine

/-! ### User mode (R331) -/

section
variable {i : Instr} {s : State}

theorem State.raiseIllegal_eq (s : State) :
    s.raiseIllegal = s.raise (if s.pending = none then .illegal else .slotIllegal) := by
  rw [State.raiseIllegal]
  cases s.pending <;> rfl

/-- The check of the mode stands before anything else, so what the instruction would go on to do does not matter. -/
theorem raises_of_privileged {rest : Result} (hexec : exec i s = privileged s rest) (huser : s.md = false) :
    Raises i s (if s.pending = none then .illegal else .slotIllegal) := by
  rw [Raises, hexec, privileged_user s rest huser, State.raiseIllegal_eq]

theorem exec_rte_outside_slot (hp : s.pending = none) : exec .rte s = privileged s (.next s.returnFromException) :=
  outsideSlot_none s _ hp

/-- RTE looks at the slot before the mode, and in a slot both checks raise the same exception. -/
theorem rte_raises_in_user_mode (huser : s.md = false) :
    Raises .rte s (if s.pending = none then .illegal else .slotIllegal) := by
  by_cases hp : s.pending = none
  · exact raises_of_privileged (exec_rte_outside_slot hp) huser
  · rw [if_neg hp]
    exact raises_of_isSlotIllegal rfl hp

/-- Each privileged instruction but RTE checks the mode before anything else. -/
theorem exec_of_isPrivileged (h : i.isPrivileged = true) (s : State) :
    i = .rte ∨ ∃ rest, exec i s = privileged s rest := by
  unfold Instr.isPrivileged at h
  split at h
  case h_25 => exact .inl rfl -- RTE
  case h_52 => cases h
  all_goals exact .inr ⟨_, rfl⟩

theorem raises_of_isPrivileged (h : i.isPrivileged = true) (huser : s.md = false) :
    Raises i s (if s.pending = none then .illegal else .slotIllegal) := by
  rcases exec_of_isPrivileged h s with rfl | ⟨rest, hexec⟩
  · exact rte_raises_in_user_mode huser
  · exact raises_of_privileged hexec huser

/-- Outside a slot the exception of user mode is the plain one. -/
theorem Raises.outside_slot (h : Raises i s (if s.pending = none then .illegal else .slotIllegal))
    (hp : s.pending = none) : Raises i s .illegal := by
  rwa [if_pos hp] at h

end

/-! ### Frames of the registers that LDC and LDS write (R23, R26, R29, R30, R33, R43, R44) -/

section
variable {s t : State} {regs : PhysReg → Word} {sr : Word} {sys : SystemRegs} (h : Leaves s t regs sr sys)
include h

theorem Leaves.setS (b : Bool) : Leaves s (t.setS b) regs (srWithS sr b) sys := by
  rw [State.setS, Sr.setS_eq, h.sr_eq]
  exact h.setSr _

theorem Leaves.setMach (v : Word) : Leaves s (t.setMach v) regs sr { sys with mach := v } := by
  obtain ⟨hregs, hsr, hsystem, hrest⟩ := h
  exact ⟨hregs, hsr, by rw [State.setMach_system, hsystem], hrest⟩

theorem Leaves.setGbr (v : Word) : Leaves s (t.setGbr v) regs sr { sys with gbr := v } := by
  obtain ⟨hregs, hsr, hsystem, hrest⟩ := h
  exact ⟨hregs, hsr, by rw [State.setGbr_system, hsystem], hrest⟩

theorem Leaves.setVbr (v : Word) : Leaves s (t.setVbr v) regs sr { sys with vbr := v } := by
  obtain ⟨hregs, hsr, hsystem, hrest⟩ := h
  exact ⟨hregs, hsr, by rw [State.setVbr_system, hsystem], hrest⟩

theorem Leaves.setSsr (v : Word) : Leaves s (t.setSsr v) regs sr { sys with ssr := v } := by
  obtain ⟨hregs, hsr, hsystem, hrest⟩ := h
  exact ⟨hregs, hsr, by rw [State.setSsr_system, hsystem], hrest⟩

theorem Leaves.setSpc (v : Word) : Leaves s (t.setSpc v) regs sr { sys with spc := v } := by
  obtain ⟨hregs, hsr, hsystem, hrest⟩ := h
  exact ⟨hregs, hsr, by rw [State.setSpc_system, hsystem], hrest⟩

theorem Leaves.setOther (j : Fin 8) (v : Word) :
    Leaves s (t.setOther j v) (Function.update regs (otherReg sr j) v) sr sys := by
  obtain ⟨hregs, hsr, hrest⟩ := h
  refine ⟨fun p => ?_, hsr, hrest⟩
  rw [State.setOther_read, hsr, funext hregs]

end

/-! ### The other bank (R340 to R347, R378 to R385) -/

theorem exec_of_ldcBankForm {i : Instr} {m : RegNum} {j : Fin 8} (h : ldcBankForm i = some (m, j)) (s : State) :
    exec i s = privileged s (loadControl (State.setOther · j ·) m s) := by
  unfold ldcBankForm at h
  split at h <;> cases h <;> rfl

theorem exec_of_stcBankForm {i : Instr} {n : RegNum} {j : Fin 8} (h : stcBankForm i = some (j, n)) (s : State) :
    exec i s = privileged s (storeControl (s.other j) n s) := by
  unfold stcBankForm at h
  split at h <;> cases h <;> rfl

end Sys2Proof.Machine

namespace Sys2Proof

open Sys2Proof.Machine

/-- Settles O17: fifty of them check the mode first, and RTE the slot and then the mode. -/
theorem privilegedInstructionsTrapInUserMode : Obligations.PrivilegedInstructionsTrapInUserMode :=
  fun _ _ => raises_of_isPrivileged

/-- Settles O45: each is one named update, or none, and the advance. -/
theorem flagInstructions : Obligations.FlagInstructions := fun s =>
  ⟨.of_advance rfl ((Leaves.refl s).setMac 0#64) rfl rfl, .of_advance rfl ((Leaves.refl s).setS false) rfl rfl,
    .of_advance rfl ((Leaves.refl s).setS true) rfl rfl, .of_putT rfl rfl, .of_putT rfl rfl,
    .of_advance rfl (.refl s) rfl rfl⟩

/-- Settles O46: each LDC is one named update and the advance; all but GBR's check the mode first. -/
theorem loadControlRegisters : Obligations.LoadControlRegisters := by
  intro s m
  refine ⟨.of_advance rfl ((Leaves.refl s).setGbr _) rfl rfl, fun hmd => ⟨?sr, ?vbr, ?ssr, ?spc⟩,
    fun hp huser i hi => ?user⟩
  case sr => exact .of_advance (privileged_md s _ hmd) ((Leaves.refl s).setSr _) rfl rfl
  case vbr => exact .of_advance (privileged_md s _ hmd) ((Leaves.refl s).setVbr _) rfl rfl
  case ssr => exact .of_advance (privileged_md s _ hmd) ((Leaves.refl s).setSsr _) rfl rfl
  case spc => exact .of_advance (privileged_md s _ hmd) ((Leaves.refl s).setSpc _) rfl rfl
  case user =>
    have hall : ∀ i ∈ [Instr.ldcSr m, .ldcVbr m, .ldcSsr m, .ldcSpc m], i.isPrivileged = true := by
      simp [Instr.isPrivileged]
    exact (raises_of_isPrivileged (hall i hi) huser).outside_slot hp

/-- Settles O47: the register written is the one that SR's bank bit does not select. -/
theorem loadOtherBank : Obligations.LoadOtherBank := by
  intro s i m j hform
  have hexec := exec_of_ldcBankForm hform s
  exact ⟨fun hmd => .of_advance (hexec.trans (privileged_md s _ hmd)) ((Leaves.refl s).setOther j _) rfl rfl,
    fun hp huser => (raises_of_privileged hexec huser).outside_slot hp⟩

/-- Settles O49: LDS is one named update, STS a register written. -/
theorem systemRegisterTransfers : Obligations.SystemRegisterTransfers := fun s _ _ =>
  ⟨.of_advance rfl ((Leaves.refl s).setMach _) rfl rfl, .of_advance rfl ((Leaves.refl s).setMacl _) rfl rfl,
    .of_advance rfl ((Leaves.refl s).setPr _) rfl rfl, .of_putReg rfl, .of_putReg rfl, .of_putReg rfl⟩

/-- Settles O50: each STC puts one register into Rn; all but GBR's check the mode first. -/
theorem storeControlRegisters : Obligations.StoreControlRegisters := by
  intro s n
  refine ⟨.of_putReg rfl, fun hmd => ⟨?sr, ?vbr, ?ssr, ?spc⟩, fun hp huser i hi => ?user⟩
  case user =>
    have hall : ∀ i ∈ [Instr.stcSr n, .stcVbr n, .stcSsr n, .stcSpc n], i.isPrivileged = true := by
      simp [Instr.isPrivileged]
    exact (raises_of_isPrivileged (hall i hi) huser).outside_slot hp
  all_goals exact .of_putReg (privileged_md s _ hmd)

/-- Settles O51: the register read is the one that SR's bank bit does not select. -/
theorem storeOtherBank : Obligations.StoreOtherBank := by
  intro s i n j hform
  have hexec := exec_of_stcBankForm hform s
  exact ⟨fun hmd => .of_putReg (hexec.trans (privileged_md s _ hmd)),
    fun hp huser => (raises_of_privileged hexec huser).outside_slot hp⟩

end Sys2Proof
end

section
/-! LDC.L and LDS.L, STC.L and STS.L (45_system_control.md R348 to R360, R364 to R366, R386 to R398, R402 to R404; D29;
log entries 15 and 17): each is a load with post-increment or a store with pre-decrement of one register. -/

namespace Sys2Proof.Machine

section
variable {i : Instr} {s : State}

/-! ### The pops -/

/-- Each pop is the increment and one change, in the mode that may run it. From any state that holds the registers with
the increment done, the change leaves the registers that the form names: LDC.L to SR too, since the increment comes
before the new bank (D29). -/
theorem exec_of_ldcLForm {v : Word} {m : RegNum} {regs : PhysReg → Word} {sr : Word} {sys : SystemRegs}
    (hmode : i.isPrivileged = true → s.md = true) (h : ldcLForm s v i = some (m, regs, sr, sys)) :
    ∃ change : Word → Change, exec i s = loadControlMem (fun u w => (change w).run u) m s ∧
      ∀ u t, Leaves u t (s.regsPopped m) s.sr s.system → Leaves u ((change v).run t) regs sr sys := by
  cases i with
  | ldcLSr => cases h; exact ⟨.sr, privileged_md s _ (hmode rfl), fun _ _ ht => ht.setSr _⟩
  | ldcLGbr => cases h; exact ⟨.gbr, rfl, fun _ _ ht => ht.setGbr _⟩
  | ldcLVbr => cases h; exact ⟨.vbr, privileged_md s _ (hmode rfl), fun _ _ ht => ht.setVbr _⟩
  | ldcLSsr => cases h; exact ⟨.ssr, privileged_md s _ (hmode rfl), fun _ _ ht => ht.setSsr _⟩
  | ldcLSpc => cases h; exact ⟨.spc, privileged_md s _ (hmode rfl), fun _ _ ht => ht.setSpc _⟩
  | ldcLR0Bank | ldcLR1Bank | ldcLR2Bank | ldcLR3Bank | ldcLR4Bank | ldcLR5Bank | ldcLR6Bank | ldcLR7Bank =>
    cases h; exact ⟨.other _, privileged_md s _ (hmode rfl), fun _ _ ht => ht.setOther _ _⟩
  | ldsLMach => cases h; exact ⟨.mach, rfl, fun _ _ ht => ht.setMach _⟩
  | ldsLMacl => cases h; exact ⟨.macl, rfl, fun _ _ ht => ht.setMacl _⟩
  | ldsLPr => cases h; exact ⟨.pr, rfl, fun _ _ ht => ht.setPr _⟩
  | _ => cases h

theorem Leaves.popped (s : State) (m : RegNum) :
    Leaves (s.afterRead (s.reg m) .long) ((s.afterRead (s.reg m) .long).setReg m (s.postInc m .long)) (s.regsPopped m)
      s.sr s.system :=
  (Leaves.afterRead s (s.reg m) .long).setReg m (s.postInc m .long)

theorem completes_or_raises_of_loadControlMem {change : Word → Change} {m : RegNum} {regs : PhysReg → Word} {sr : Word}
    {sys : SystemRegs} (hexec : exec i s = loadControlMem (fun u w => (change w).run u) m s)
    (hchange : ∀ u t, Leaves u t (s.regsPopped m) s.sr s.system →
      Leaves u ((change (s.memRead (s.reg m) .long)).run t) regs sr sys) :
    if s.accessOk .read (s.reg m) .long then CompletesRead i s (s.reg m) .long regs sr sys
    else Raises i s (.addressError .read) :=
  completes_or_raises_of_checked hexec fun hrest =>
    .of_advance hrest (hchange _ _ (.popped s m)) (by simp [Change.run_pc]) (by simp [Change.run_pending])

/-! ### The pushes -/

/-- Each push stores the register that the form names, in the mode that may run it. -/
theorem exec_of_stcLForm {v : Word} {n : RegNum} (hmode : i.isPrivileged = true → s.md = true)
    (h : stcLForm s i = some (v, n)) : exec i s = storeControlMem v n s := by
  cases i with
  | stcLGbr | stsLMach | stsLMacl | stsLPr => cases h; rfl
  | stcLSr | stcLVbr | stcLSsr | stcLSpc | stcLR0Bank | stcLR1Bank | stcLR2Bank | stcLR3Bank | stcLR4Bank | stcLR5Bank
  | stcLR6Bank | stcLR7Bank =>
    cases h; exact privileged_md s _ (hmode rfl)
  | _ => cases h

theorem completes_or_raises_of_storeControlMem {v : Word} {n : RegNum} (hexec : exec i s = storeControlMem v n s) :
    if s.accessOk .write (s.preDec n .long) .long then
      CompletesStore i s (s.regsWith n (s.preDec n .long)) s.sr (s.preDec n .long) .long v
    else Raises i s (.addressError .write) :=
  completes_or_raises_of_checked hexec .of_memWrite_setReg

end

end Sys2Proof.Machine

namespace Sys2Proof

open Sys2Proof.Machine

/-- Settles O48: each form is a pop into one register. -/
theorem popControlRegisters : Obligations.PopControlRegisters := by
  intro s i m regs sr sys hmode hform
  obtain ⟨change, hexec, hchange⟩ := exec_of_ldcLForm hmode hform
  exact completes_or_raises_of_loadControlMem hexec hchange

/-- Settles O52: each form is a push of one register, at the address below Rn. -/
theorem pushControlRegisters : Obligations.PushControlRegisters :=
  fun _ _ _ _ hmode hform => ⟨rfl, completes_or_raises_of_storeControlMem (exec_of_stcLForm hmode hform)⟩

end Sys2Proof
end

section
/-! TRAPA and RTE (45_system_control.md R368, R405; 60_exceptions.md R445, R451; D4; log entry 9): entering a handler
and leaving it. -/

namespace Sys2Proof.Machine

theorem exec_trapa_outside_slot {s : State} (hp : s.pending = none) (imm : BitVec 8) :
    exec (.trapa imm) s = .next (s.raise (.trapa imm)) :=
  outsideSlot_none s _ hp

end Sys2Proof.Machine

namespace Sys2Proof

open Sys2Proof.Machine

/-- Settles O53: outside a slot TRAPA raises its exception, which with BL = 1 is the reset of R451 and else the
entry. -/
theorem trapaEntersTheHandler : Obligations.TrapaEntersTheHandler := by
  intro s imm
  refine ⟨raises_of_isSlotIllegal rfl, fun hp hblocked => ?reset, fun hp hopen => ?entry⟩
  case reset => rw [exec_trapa_outside_slot hp imm, State.raise_blocked s _ hblocked]
  case entry =>
    have hexec := exec_trapa_outside_slot hp imm
    rw [State.raise_open s _ hopen] at hexec
    exact ⟨_, hexec, rfl, rfl, rfl, rfl, CtrlReg.get_tra_toNat _, rfl, rfl, rfl, rfl⟩

/-- Settles O54: outside a slot and in privileged mode RTE loads SR whole and leaves SPC pending. -/
theorem returnFromException : Obligations.ReturnFromException := by
  refine fun s => ⟨raises_of_isSlotIllegal rfl, fun hp huser => ?user, fun hp hmd => ?privileged⟩
  case user => exact (rte_raises_in_user_mode huser).outside_slot hp
  case privileged =>
    exact .of_delayedBranch ((exec_rte_outside_slot hp).trans (privileged_md s _ hmd)) ((Leaves.refl s).setSr s.ssr)
      rfl rfl

end Sys2Proof
end

section
/-! Entering a handler, the reset that takes its place with BL = 1, and the boundary that accepts a request
(60_exceptions.md R441, R445, R446, R450 to R453, R470; 70_reset_and_hazards.md R480, R482; D3, D11, D15, D16). -/

namespace Sys2Proof.Machine

/-! ### The acceptance of a request (R450, R452, R470) -/

theorem State.aboveMask_iff (s : State) (r : IntReq) :
    s.aboveMask r = true ↔ (s.sr.extractLsb' 4 4).toNat < r.level.val :=
  decide_eq_true_iff

/-- BL holds a request off in the running mode alone. -/
theorem State.accepts_iff (s : State) (r : IntReq) :
    s.accepts r = true ↔ s.pending = none ∧ (s.sr.extractLsb' 4 4).toNat < r.level.val ∧
      (s.mode = .running → s.sr.getLsbD 28 = false) := by
  rw [State.accepts, Bool.and_eq_true, Bool.and_eq_true, Option.isNone_iff_eq_none, s.aboveMask_iff, and_assoc]
  cases hmode : s.mode with
  | running => simp [State.bl, Sr.bl]
  | sleeping | standby => simp

/-! ### What an accepted request leaves (R445, R453) -/

@[simp] theorem State.interrupt_system (s : State) (r : IntReq) :
    (s.interrupt r).system = { s.system with ssr := s.sr, spc := s.pc } := by
  rw [State.interrupt, CtrlReg.set_system]
  rfl

/-- Taking the input touches no mapped register. -/
theorem CtrlReg.set_afterInput_mapped (c : CtrlReg) (v : Word) (s : State) :
    (c.set v s.afterInput).mapped = (c.set v s).mapped := by
  cases c <;> rfl

/-! ### The entry of a general exception (R441, R446) -/

/-- R446 asks whether a branch is pending, the model whether there is none. -/
theorem State.resumeAddress_of_fault (s : State) {e : Exc} (h : ∀ imm, e ≠ .trapa imm) :
    s.resumeAddress e = if s.pending = none then s.pc else s.pc - 2#32 := by
  have hfault : s.resumeAddress e = if s.pending.isSome then s.pc - 2#32 else s.pc := by
    cases e with
    | trapa imm => exact absurd rfl (h imm)
    | addressError | illegal | slotIllegal => rfl
  rw [hfault]
  cases s.pending <;> rfl

theorem Exc.offset_family (e : Exc) : e.offset Platform.family = 0x100#32 := by
  cases e with
  | addressError k => cases k <;> rfl
  | illegal | slotIllegal | trapa => rfl

/-! ### SR after a reset (R480, R482) -/

/-- A mask that leaves bit `k` out does not see it set. -/
theorem setBit_and_of_not_mem {mask : Word} {k : Nat} (h : mask.getLsbD k = false) (w : Word) (b : Bool) :
    setBit w k b &&& mask = w &&& mask := by
  refine BitVec.eq_of_getLsbD_eq fun i hi => ?_
  rw [BitVec.getLsbD_and, BitVec.getLsbD_and, setBit_getLsbD w k i b hi]
  split
  · next heq => rw [heq, h, Bool.and_false, Bool.and_false]
  · rfl

/-- Beside MD, RB and BL a reset assigns the same to every platform: IMASK = 15 and the reserved bits 0. -/
theorem Sr.resetBits_and (p : Platform) : Sr.resetBits p &&& 0x8FFFFFFF#32 = 0x000000F0#32 := by
  rw [Sr.resetBits, setBit_and_of_not_mem (by decide), setBit_and_of_not_mem (by decide),
    setBit_and_of_not_mem (by decide)]
  decide

theorem State.resetWith_sr_and (s : State) (k : ResetKind) :
    (s.resetWith k).sr &&& 0x8FFFFFFF#32 = 0x000000F0#32 ||| (s.sr &&& 0x00000303#32) := by
  have huser : Sr.userBits &&& 0x8FFFFFFF#32 = 0x00000303#32 := by decide
  rw [State.resetWith_sr, BitVec.and_or_distrib_right, Sr.resetBits_and, BitVec.and_assoc, huser]

/-- A bit that user mode cannot reach holds what the reset assigns. -/
theorem State.resetWith_sr_getLsbD (s : State) (k : ResetKind) {i : Nat} (h : Sr.userBits.getLsbD i = false) :
    (s.resetWith k).sr.getLsbD i = (Sr.resetBits s.platform).getLsbD i := by
  rw [State.resetWith_sr, BitVec.getLsbD_or, BitVec.getLsbD_and, h, Bool.and_false, Bool.or_false]

theorem State.resetWith_rb (s : State) (k : ResetKind) : (s.resetWith k).sr.getLsbD 29 = s.platform.resetRb :=
  (s.resetWith_sr_getLsbD k (by decide)).trans (Sr.resetBits_getLsbD _ 29 (by decide))

theorem State.resetWith_bl (s : State) (k : ResetKind) : (s.resetWith k).sr.getLsbD 28 = s.platform.resetBl :=
  (s.resetWith_sr_getLsbD k (by decide)).trans (Sr.resetBits_getLsbD _ 28 (by decide))

@[simp] theorem State.resetWith_system (s : State) (k : ResetKind) :
    (s.resetWith k).system = { s.system with vbr := 0#32 } := rfl

@[simp] theorem State.resetWith_surroundings (s : State) (k : ResetKind) :
    (s.resetWith k).surroundings = { s.surroundings with littleEndian := s.md5, mode := .running } := rfl

end Sys2Proof.Machine

namespace Sys2Proof

open Sys2Proof.Machine

/-- Settles O12: the boundary takes the request exactly when it is accepted; taking it is the entry of R445 with the
code in the platform's register. -/
theorem interruptAcceptance : Obligations.InterruptAcceptance := by
  intro s r hreset hrequest
  refine ⟨s.afterInput_mem.symm, ?_⟩
  have haccepts := s.afterInput.accepts_iff r
  split
  case isTrue h =>
    let t := s.afterInput.interrupt r
    have hmapped : t.mapped = (s.platform.interruptRegister.set r.code s).mapped :=
      (s.afterInput.interrupt_mapped r).trans (CtrlReg.set_afterInput_mapped _ _ s)
    have hpc : t.pc = s.vbr + s.platform.interruptOffset := s.afterInput.interrupt_pc r
    have hintevt (hreg : s.platform.interruptRegister = .intevt) : t.mapped = { s.mapped with intevt := r.code } := by
      rw [hmapped, hreg]
      rfl
    refine ⟨t, step_of_accepted hreset hrequest (haccepts.mpr h), s.afterInput.interrupt_ssr r,
      s.afterInput.interrupt_spc r, s.afterInput.interrupt_sr r, hmapped, hpc, s.afterInput.interrupt_pending r,
      s.afterInput.interrupt_mode r, hintevt, fun hfamily => ?family, s.afterInput.interrupt_gpr r,
      s.afterInput.interrupt_mem r, s.afterInput.interrupt_tlb r, s.afterInput.interrupt_platform r,
      s.afterInput.interrupt_system r⟩
    case family =>
      have hcode := hintevt (congrArg Platform.interruptRegister hfamily)
      exact ⟨congrArg MappedRegs.intevt hcode, hpc.trans (by rw [hfamily]; rfl), congrArg MappedRegs.expevt hcode,
        congrArg MappedRegs.tra hcode⟩
  case isFalse h =>
    refine step_eq_runOrWait hreset fun r' hr' => ?_
    obtain rfl : r = r' := Option.some.inj (hrequest.symm.trans hr')
    exact Bool.eq_false_iff.mpr (mt haccepts.mp h)

/-- Settles O14: without a reset or an accepted request the step waits, and only the input has been taken. -/
theorem sleepingStepWaits : Obligations.SleepingStepWaits := by
  intro s hmode hreset hrequest
  have hpowerDown : s.afterInput.mode ≠ .running := hmode
  have hstep : step s = .next s.afterInput :=
    (step_eq_runOrWait hreset hrequest).trans (runOrWait_of_powerDown hpowerDown)
  exact ⟨s.afterInput, hstep, rfl, rfl, rfl, rfl, rfl, rfl, rfl, rfl, rfl⟩

/-- Settles O15: with BL = 0 raising is the entry, whose resume address, code and offset go by the exception. -/
theorem generalExceptionEntry : Obligations.GeneralExceptionEntry := by
  intro s e hopen t
  have ht : t = _ := s.raise_open e hopen
  rw [ht]
  refine ⟨rfl, ?resume, rfl, ?code, congrArg (s.vbr + ·) ?offset, fun hfamily => ⟨?familyPc, ?familyCode⟩, ?tra, rfl,
    rfl, rfl, rfl, rfl, rfl, rfl⟩
  case resume =>
    change s.resumeAddress e = _
    cases e with
    | trapa imm => rfl
    | addressError | illegal | slotIllegal => exact s.resumeAddress_of_fault nofun
  case familyPc =>
    have hoffset : e.offset s.platform = 0x100#32 := hfamily ▸ e.offset_family
    exact congrArg (s.vbr + ·) hoffset
  case' familyCode =>
    change e.code s.platform = _
    rw [hfamily]
  case code | offset | familyCode =>
    cases e with
    | addressError k => cases k <;> rfl
    | illegal | slotIllegal | trapa => rfl
  case tra => cases e <;> rfl

/-- Settles O16: with BL = 1 raising is the manual reset. -/
theorem blockedExceptionResets : Obligations.BlockedExceptionResets := by
  intro s e hblocked t
  have ht : t = s.resetWith .manual := s.raise_blocked e hblocked
  rw [ht]
  refine ⟨s.resetWith_sr_and _, s.resetBy_md .manual, s.resetWith_rb _, s.resetWith_bl _, s.resetWith_expevt _,
    s.resetWith_pc _, fun hfamily => ⟨?familySr, ?familyCode⟩, rfl, rfl, rfl, s.resetWith_system _, rfl, rfl,
    s.resetWith_surroundings _⟩
  case familySr =>
    have hbits : Sr.resetBits s.platform = 0x700000F0#32 := by rw [hfamily]; decide
    rw [State.resetWith_sr, hbits, Sr.userBits]
  case familyCode =>
    rw [State.resetWith_expevt, hfamily]
    rfl

end Sys2Proof
end

section
/-! The reset that the host asserts, of either kind (70_reset_and_hazards.md R480 to R483; D6). -/

namespace Sys2Proof.Machine

/-! ### What resets of both kinds assign (R480, R483) -/

@[simp] theorem State.resetBy_vbr (s : State) (k : ResetKind) : (s.resetBy k).vbr = 0#32 := by
  cases k <;> rfl
@[simp] theorem State.resetBy_pc (s : State) (k : ResetKind) : (s.resetBy k).pc = 0xA0000000#32 := by
  cases k <;> rfl
@[simp] theorem State.resetBy_pending (s : State) (k : ResetKind) : (s.resetBy k).pending = none := by
  cases k <;> rfl
@[simp] theorem State.resetBy_mode (s : State) (k : ResetKind) : (s.resetBy k).mode = .running := by
  cases k <;> rfl
@[simp] theorem State.resetBy_md5 (s : State) (k : ResetKind) : (s.resetBy k).md5 = s.md5 := by
  cases k <;> rfl
@[simp] theorem State.resetBy_expevt (s : State) (k : ResetKind) : (s.resetBy k).expevt = k.code s.platform := by
  cases k <;> rfl
@[simp] theorem State.resetBy_mem (s : State) (k : ResetKind) : (s.resetBy k).mem = s.mem := by
  cases k <;> rfl

/-! ### AT and STBY -/

theorem getLsbD_and_not_one_shiftLeft {w : Nat} (v : BitVec w) (i : Nat) :
    (v &&& ~~~(1#w <<< i)).getLsbD i = false := by
  by_cases hi : i < w <;> simp [hi]

theorem State.resetBy_mmucr_at (s : State) (k : ResetKind) :
    (s.resetBy k).mmucr.getLsbD s.platform.atBit.val = false := by
  cases k <;> exact getLsbD_and_not_one_shiftLeft _ _

theorem State.resetBy_stbcr_stby (s : State) (k : ResetKind) :
    (s.resetBy k).stbcr.getLsbD s.platform.stbyBit.val = false := by
  cases k <;> exact getLsbD_and_not_one_shiftLeft _ _

/-! ### SR -/

/-- A power-on reset makes of a free value what a manual reset makes of the SR that stands: the rules about the SR of
`State.resetWith`, which speak of every old SR, hold of both. -/
theorem State.exists_resetBy_sr (s : State) (k : ResetKind) :
    ∃ v, (s.resetBy k).sr = ({ s with sr := v }.resetWith k).sr := by
  cases k with
  | powerOn => exact ⟨Config.freeWord (s.freeCount + 24), rfl⟩
  | manual => exact ⟨s.sr, rfl⟩

/-- Under a mask that leaves MD, RB and BL out, SR holds IMASK = 15 and the bits of the old SR that user mode can
reach. -/
theorem State.resetWith_sr_and_of_subset (s : State) (k : ResetKind) {mask : Word}
    (h : 0x8FFFFFFF#32 &&& mask = mask) :
    (s.resetWith k).sr &&& mask = (0x000000F0#32 &&& mask) ||| (s.sr &&& (0x00000303#32 &&& mask)) := by
  calc (s.resetWith k).sr &&& mask
      = ((s.resetWith k).sr &&& 0x8FFFFFFF#32) &&& mask := by rw [BitVec.and_assoc, h]
    _ = _ := by rw [s.resetWith_sr_and k, BitVec.and_or_distrib_right, BitVec.and_assoc]

theorem State.resetBy_sr_reserved (s : State) (k : ResetKind) :
    (s.resetBy k).sr &&& 0x8FFFFCFC#32 = 0x000000F0#32 := by
  obtain ⟨v, hv⟩ := s.exists_resetBy_sr k
  rw [hv, State.resetWith_sr_and_of_subset _ k (by decide)]
  simp

theorem State.resetBy_rb (s : State) (k : ResetKind) : (s.resetBy k).sr.getLsbD 29 = s.platform.resetRb := by
  obtain ⟨v, hv⟩ := s.exists_resetBy_sr k
  exact hv ▸ State.resetWith_rb _ k

theorem State.resetBy_bl (s : State) (k : ResetKind) : (s.resetBy k).sr.getLsbD 28 = s.platform.resetBl := by
  obtain ⟨v, hv⟩ := s.exists_resetBy_sr k
  exact hv ▸ State.resetWith_bl _ k

/-- R482: a manual reset keeps M, Q, S and T. -/
theorem State.manualReset_sr_userBits (s : State) : s.manualReset.sr &&& 0x00000303#32 = s.sr &&& 0x00000303#32 := by
  rw [State.manualReset, s.resetWith_sr_and_of_subset .manual (by decide)]
  simp

/-- At the default platform every reset sets MD, RB and BL (R8, log entry 4). -/
theorem State.resetBy_sr_family (s : State) (h : s.platform = Platform.family) (k : ResetKind) :
    (s.resetBy k).sr &&& 0x70000000#32 = 0x70000000#32 := by
  have hbits : Sr.resetBits s.platform = 0x700000F0#32 := by rw [h]; decide
  obtain ⟨v, hv⟩ := s.exists_resetBy_sr k
  rw [hv, State.resetWith_sr, hbits, BitVec.and_or_distrib_right, BitVec.and_assoc, Sr.userBits]
  simp

end Sys2Proof.Machine

namespace Sys2Proof

open Sys2Proof.Machine

/-- Settles O11: the step is the reset of the state that has taken its input, pin MD5's level included. -/
theorem resetInputResets : Obligations.ResetInputResets := by
  intro s kind hreset
  let u := s.afterInput
  refine ⟨u.resetBy kind, step_of_reset hreset, u.resetBy_sr_reserved kind, u.resetBy_md kind, u.resetBy_rb kind,
    u.resetBy_bl kind, u.resetBy_vbr kind, u.resetBy_pc kind, u.resetBy_pending kind, u.resetBy_mode kind,
    u.resetBy_md5 kind, (u.resetBy_littleEndian kind).trans (u.resetBy_md5 kind).symm,
    (u.resetBy_expevt kind).trans ?code, u.resetBy_mmucr_at kind, u.resetBy_stbcr_stby kind, u.resetBy_mem kind,
    ?manual, fun hfamily => ⟨u.resetBy_sr_family hfamily kind, (u.resetBy_expevt kind).trans ?familyCode⟩⟩
  case code => cases kind <;> rfl
  case manual =>
    rintro rfl
    exact ⟨rfl, u.resetWith_system .manual, u.manualReset_sr_userBits⟩
  case familyCode =>
    have hplatform : u.platform = Platform.family := hfamily
    rw [hplatform]
    cases kind <;> rfl

end Sys2Proof
end
